-- ==== Sys2Proof/Word.lean ====
section
/-! DEFINITION. The words of the SB864 and its fixed tables of like records. -/

namespace Sys2Proof

/-- A 32-bit word of the host bus, the control block and the commands (R151, R154). -/
abbrev Word := BitVec 32

/-- A byte of the profile image, of a slot link packet, or a set of at most eight causes. -/
abbrev Byte := BitVec 8

/-- A table of `n` like records, such as the 64 window records. -/
abbrev Tbl (n : Nat) (α : Type) := Vector α n

namespace Tbl

variable {n : Nat} {α : Type}

/-- The record with index `i`. -/
def get (t : Tbl n α) (i : Fin n) : α := t[i.val]

/-- The table with the record of index `i` replaced. -/
def put (t : Tbl n α) (i : Fin n) (a : α) : Tbl n α := Vector.set t i.val a

/-- The table of the records `f i`. -/
def make (f : Fin n → α) : Tbl n α := Vector.ofFn f

/-- Every record changed by its own index. -/
def each (t : Tbl n α) (f : Fin n → α → α) : Tbl n α := make fun i => f i (t.get i)

/-- The table whose every record is `a`. -/
def fill (a : α) : Tbl n α := make fun _ => a

@[simp] theorem get_put (t : Tbl n α) (i j : Fin n) (a : α) :
    (t.put i a).get j = if j = i then a else t.get j := by
  simp only [get, put, Vector.getElem_set]
  by_cases h : j = i
  · simp [h]
  · have : ¬ i.val = j.val := fun e => h (Fin.ext e.symm)
    simp [h, this]

@[simp] theorem get_make (f : Fin n → α) (i : Fin n) : get (make f) i = f i := by
  simp [get, make]

@[simp] theorem get_each (t : Tbl n α) (f : Fin n → α → α) (i : Fin n) :
    (t.each f).get i = f i (t.get i) := by
  simp [each]

@[simp] theorem get_fill (a : α) (i : Fin n) : get (fill a) i = a := by
  simp [fill]

/-- Two tables with the same records are the same table. -/
theorem ext_get {t u : Tbl n α} (h : ∀ i, t.get i = u.get i) : t = u := by
  apply Vector.ext
  intro i hi
  simpa [get] using h ⟨i, hi⟩

end Tbl

end Sys2Proof
end

