-- ==== Sys2Proof/Syntax.lean ====
section
/-! DEFINITION. The commands and events of the part: one constructor per row of spec/opcode_table.json. -/

namespace Sys2Proof

/-- A slot number, 0 to 7. -/
abbrev SlotIx := Fin 8

/-- A window index, 0 to 63. -/
abbrev WinIx := Fin 64

/-- A host tag, 0 to 15. -/
abbrev HostTag := Fin 16

/-- A link tag index, 0 to 7. -/
abbrev TagIx := Fin 8

/-- An attention line, 0 to 3. -/
abbrev LineIx := Fin 4

/-- The operation of a host request (R28). -/
inductive Op where
  | read | write
  deriving DecidableEq, Repr

/-- The size of a host request: 1, 2 or 4 bytes (R28). -/
inductive Size where
  | one | two | four
  deriving DecidableEq, Repr

/-- The status field of a COMPLETION packet; `undefined` stands for every value that is none of the three (R92). -/
inductive CplStatus where
  | ok | error | unsupported | undefined
  deriving DecidableEq, Repr

/-- One byte of a transaction on the identification link as it ends (4.3): a byte of the part's that the memory
acknowledges, or an image byte that the memory sends. -/
inductive Transfer where
  | acknowledged
  | received (byte : Byte)
  deriving DecidableEq, Repr

/-- Where the identification link stands at a removal (R86): how many of the clock pulses of a bus clear, or of the start
conditions before the next byte, have passed, and whether a byte is being transferred. -/
structure LinkPlace where
  passed : Fin 10
  withinByte : Bool
  deriving DecidableEq, Repr

/-- The commands and events of the part. A host request carries its host tag; an event of a slot carries the slot.
The completions of commands carry no operand: a command is executed from the taken operands (R126). -/
inductive Instr where
  /-- R29: a host request; `data` are the 32 data lanes of a WRITE. -/
  | apertureAccess (tag : HostTag) (op : Op) (addr : Word) (size : Size) (data : Word)
  /-- R151: a host write to the control block. -/
  | controlBlockWrite (tag : HostTag) (addr : Word) (size : Size) (data : Word)
  /-- R130, R151: a host read of the control block, the command status word among its words. -/
  | commandStatusRead (tag : HostTag) (addr : Word) (size : Size)
  /-- R115: a 4-byte read of the ACK word of a line. -/
  | ack (tag : HostTag) (line : LineIx)
  /-- R117: a 4-byte write of the EOS word of a line. -/
  | eos (tag : HostTag) (line : LineIx) (value : Word)
  /-- R128: a 4-byte write of the command code word that finds the engine EXECUTING. -/
  | cmdOverrun (tag : HostTag) (code : Word)
  /-- R134 -/
  | nop
  /-- R5 to R11 -/
  | winStage
  /-- R12 -/
  | winOpen
  /-- R14 -/
  | winClose
  /-- R16, R17 -/
  | winRelease
  /-- R26 -/
  | winRead
  /-- R27 -/
  | winLookup
  /-- R72 -/
  | slotRead
  /-- R89 -/
  | profileRead
  /-- R57 -/
  | slotAdmit
  /-- R66 -/
  | slotEject
  /-- R71 -/
  | slotRecover
  /-- R73 -/
  | slotClearPosted
  /-- R120 -/
  | srcRoute
  /-- R122 -/
  | srcRead
  /-- R144 -/
  | ticketRead
  /-- R145 -/
  | ticketCollect
  /-- R136 -/
  | partConfig
  /-- R137 -/
  | partConfigRead
  /-- R158: RESET_N asserts. -/
  | partReset
  /-- R158: part reset ends, the straps sampled at these values. -/
  | partResetEnd (apsel : Bool) (cbsel : BitVec 2)
  /-- R153: HRST_N asserts. -/
  | hostPortReset
  /-- R153: HRST_N deasserts. -/
  | hostPortResetRelease
  /-- R51, R52 -/
  | presenceAsserted (slot : SlotIx)
  /-- R51, R52 -/
  | presenceDeasserted (slot : SlotIx)
  /-- R51 -/
  | settleTimerExpiry (slot : SlotIx)
  /-- R53, R86: where the identification link stands. -/
  | removalFilterExpiry (slot : SlotIx) (place : LinkPlace)
  /-- R58 -/
  | powerGoodAsserted (slot : SlotIx)
  /-- R58 -/
  | powerGoodLoss (slot : SlotIx)
  /-- R58 -/
  | qualificationExpiry (slot : SlotIx)
  /-- R58 -/
  | powerTimerExpiry (slot : SlotIx)
  /-- R94 -/
  | trainingTimerExpiry (slot : SlotIx)
  /-- R95 -/
  | ready (slot : SlotIx) (count : BitVec 4)
  /-- R98 -/
  | sendRequest (slot : SlotIx)
  /-- R99 -/
  | completion (slot : SlotIx) (tag : TagIx) (status : CplStatus) (data : List Byte)
  /-- R100 -/
  | completionTimerExpiry (slot : SlotIx) (tag : TagIx)
  /-- R100 -/
  | quarantineTimerExpiry (slot : SlotIx) (tag : TagIx)
  /-- R104 -/
  | attention (slot : SlotIx) (causes : Byte)
  /-- R105 -/
  | ejectRequest (slot : SlotIx)
  /-- R106 -/
  | quiesced (slot : SlotIx)
  /-- R69 -/
  | quiesceTimerExpiry (slot : SlotIx)
  /-- R101 -/
  | unknownPacketKind (slot : SlotIx)
  /-- R92 -/
  | packetCheckFailure (slot : SlotIx)
  /-- R107 -/
  | linkLoss (slot : SlotIx)
  /-- R79: the data line reads high after so many pulses, or is still low after the ninth. -/
  | busClear (pulses : Option (Fin 10))
  /-- R80: the next byte or bytes of the header transaction, which ends with image byte 3. -/
  | headerTransaction (next : Transfer) (second third fourth : Option Transfer)
  /-- R81: the next bytes of the body transaction, which ends with the last byte of the image. -/
  | bodyTransaction (run : List Transfer)
  /-- R82: a byte of the part's is not acknowledged, or the bus clear does not free the data line. -/
  | attemptFails
  /-- R82 -/
  | retryTimerExpiry
  /-- R86 -/
  | abandonedByteEnd
  /-- R127: a 4-byte write of the command code word. -/
  | commandIssue (tag : HostTag) (code : Word)
  /-- R132 -/
  | badCommand
  deriving DecidableEq, Repr

end Sys2Proof
end

