-- ==== Sys2Proof/Machine/Bits.lean ====
section
/-! DEFINITION. Bit fields of the 32-bit words, and the byte lanes of the host bus. -/

namespace Sys2Proof.Machine

/-- The `len` bits of `w` from bit `lo` up, as a number. -/
def field (w : Word) (lo len : Nat) : Nat := (w.extractLsb' lo len).toNat

/-- The word that holds `v` in the `len` bits from bit `lo` up, and 0 elsewhere. -/
def place (v lo len : Nat) : Word := (BitVec.ofNat len v).setWidth 32 <<< lo

/-- The word that holds a flag at bit `k`, and 0 elsewhere. -/
def flag (b : Bool) (k : Nat) : Word := place b.toNat k 1

/-- No bit of `w` outside `mask` is set: the parts assigned to no operand are zero (R132). -/
def within (w mask : Word) : Bool := w &&& ~~~mask == 0

/-- Four words as a table: the operand words or the result words. -/
def words (w0 w1 w2 w3 : Word) : Tbl 4 Word := #v[w0, w1, w2, w3]

/-- The number of bytes of a size (R28). -/
def sizeBytes : Size → Nat
  | .one => 1
  | .two => 2
  | .four => 4

/-- The byte on byte lane `k`: lane `k` is bits 8k+7 to 8k (log 9). -/
def laneByte (w : Word) (k : Nat) : Byte := w.extractLsb' (8 * k) 8

/-- The bytes on the lanes that address and size select, in address order (R148). -/
def laneBytes (addr : Word) (size : Size) (w : Word) : List Byte :=
  (List.range (sizeBytes size)).map fun i => laneByte w (addr.toNat % 4 + i)

/-- The read data with `bytes` on the lanes from the address up, the other lanes 0 (R148). -/
def laneWord (addr : Word) (bytes : List Byte) : Word :=
  bytes.zipIdx.foldl (init := 0) fun (w : Word) p => w ||| place p.1.toNat (8 * (addr.toNat % 4 + p.2)) 8

/-- A little-endian number of a run of bytes: the profile image stores the least significant byte first (R157). -/
def leNat : List Byte → Nat
  | [] => 0
  | b :: bs => b.toNat + 256 * leNat bs

end Sys2Proof.Machine
end

