-- ==== Sys2Proof/Config.lean ====
section
/-! DEFINITION. What the spec fixes about the part: the coded settings of the configuration record, the durations of
the timers, the bases the straps select. The spec leaves no value of this part free, so no constant here is opaque. -/

namespace Sys2Proof

/-- The settle times PART_CONFIG accepts (R135). -/
inductive SettleTime where
  | ms25 | ms50 | ms100 | ms200
  deriving DecidableEq, Repr

/-- The power timeouts PART_CONFIG accepts (R135). -/
inductive PowerTimeout where
  | ms50 | ms100 | ms200 | ms400
  deriving DecidableEq, Repr

/-- The completion timeouts PART_CONFIG accepts (R135). -/
inductive CompletionTimeout where
  | us250 | us500 | ms1 | ms2 | ms4 | ms8 | ms16
  deriving DecidableEq, Repr

/-- The identification clock rates PART_CONFIG accepts (R135). -/
inductive IdentClock where
  | khz100 | khz400
  deriving DecidableEq, Repr

/-- A timer: stopped, or running with the nominal duration in microseconds that it was started with (R138). -/
abbrev Timer := Option Nat

namespace Config

/-- The settle time in microseconds (R51). -/
def settleMicros : SettleTime → Nat
  | .ms25 => 25000
  | .ms50 => 50000
  | .ms100 => 100000
  | .ms200 => 200000

/-- The power timeout in microseconds (R57). -/
def powerMicros : PowerTimeout → Nat
  | .ms50 => 50000
  | .ms100 => 100000
  | .ms200 => 200000
  | .ms400 => 400000

/-- The completion timeout in microseconds (R98). -/
def completionMicros : CompletionTimeout → Nat
  | .us250 => 250
  | .us500 => 500
  | .ms1 => 1000
  | .ms2 => 2000
  | .ms4 => 4000
  | .ms8 => 8000
  | .ms16 => 16000

/-- The removal filter, 2 ms (R52). -/
def removalMicros : Nat := 2000

/-- The qualification period of power good, 1 ms (R58). -/
def qualificationMicros : Nat := 1000

/-- The training limit, 20 ms (R94). -/
def trainingMicros : Nat := 20000

/-- The quiesce timer, 10 ms (R68). -/
def quiesceMicros : Nat := 10000

/-- The retry timer of the Identification Controller, 5 ms (R82). -/
def retryMicros : Nat := 5000

/-- Entries a Pending Queue can hold (R38). -/
def queueCapacity : Nat := 16

/-- Aperture pages (R1). -/
def aperturePages : Nat := 262144

/-- Module pages (R1). -/
def modulePages : Nat := 1048576

/-- The greatest page count of a window (R1). -/
def maxPages : Nat := 65536

/-- The greatest power budget (R55). -/
def maxBudget : Nat := 4000

/-- The part code of the part identification word (R152). -/
def partCode : Nat := 0x0864

/-- The revision of the part identification word (R152). -/
def revision : Nat := 0x01

/-- The 7-bit device address of the memory that holds the profile image (4.3). -/
def identAddress : BitVec 7 := 0x5E

end Config

end Sys2Proof
end

