-- ==== Sys2Proof/Machine/State.lean ====
section
/-! DEFINITION. Every record the spec gives the part, as plain data, and its value right after part reset. -/

namespace Sys2Proof.Machine

/-! ### The Window Table -/

/-- Forwarding class of a window (R1): writes through MEM are posted, through REG they are not. -/
inductive Kind where
  | mem | reg
  deriving DecidableEq, Repr

/-- The operations a window allows; never empty (R1). -/
inductive Rights where
  | read | write | readWrite
  deriving DecidableEq, Repr

/-- The state a CLOSING window takes when it drains (R1). -/
inductive Disposition where
  | toStaged | toFree
  deriving DecidableEq, Repr

/-- The fields of a window that are present in every state but FREE (R1). -/
structure Mapping where
  slot : SlotIx
  /-- the profile request granted; absent for a host-defined window -/
  request : Option (Fin 6)
  kind : Kind
  rights : Rights
  /-- first aperture page -/
  base : Nat
  pages : Nat
  /-- module page reached through the first aperture page -/
  moduleBase : Nat
  deriving DecidableEq, Repr

/-- A window record (R1): each state holds exactly the fields that are present in it. References are 0 in FREE and
STAGED (R18), so only OPEN and CLOSING hold the count. -/
inductive Window where
  | free
  | staged (m : Mapping)
  | opened (m : Mapping) (refs : Nat)
  | closing (m : Mapping) (refs : Nat) (disposition : Disposition) (ticket : Option Nat)
  deriving DecidableEq, Repr

/-! ### The Slot Manager -/

/-- Why a slot is FAULTED (R50). -/
inductive FaultCause where
  | identNoAnswer | identBadImage | powerTimeout | powerLost | linkTimeout | linkProtocol | linkLost
  deriving DecidableEq, Repr

/-- The ten slot states (R50); the fault cause is present in FAULTED alone. -/
inductive SlotState where
  | empty | settling | queued | identifying | identified | powering | linking | active | ejecting
  | faulted (cause : FaultCause)
  deriving DecidableEq, Repr

/-- One window request of a profile (R87). -/
structure Request where
  kind : Kind
  writable : Bool
  /-- log2 of the aperture alignment in pages -/
  alignment : Nat
  pages : Nat
  base : Nat
  deriving DecidableEq, Repr

/-- A module's held profile (R87). -/
structure Profile where
  vendorCode : BitVec 16
  moduleKind : BitVec 16
  revision : Byte
  powerUnits : Byte
  attentionMask : Byte
  hardwareBuild : Byte
  serial : Word
  requests : List Request
  deriving DecidableEq, Repr

/-- How a posted write failed (R67). -/
inductive PostedCause where
  | moduleError | timeout | aborted
  deriving DecidableEq, Repr

/-- The first posted write of a slot that failed after it was answered (R67). -/
structure PostedFailure where
  window : WinIx
  addr : Word
  cause : PostedCause
  more : Bool
  deriving DecidableEq, Repr

/-- The power timer of a POWERING slot (R58): waiting for power good, or qualifying it. -/
inductive PowerTimer where
  | waiting (micros : Nat)
  | qualifying (micros : Nat)
  deriving DecidableEq, Repr

/-- A slot record (R50) with the timers its Slot Manager runs for it. -/
@[ext]
structure Slot where
  state : SlotState
  profile : Option Profile
  committedUnits : Byte
  /-- PWREN, the main power enable output (R55, R159) -/
  mainPower : Bool
  usableTags : Option Nat
  posted : Option PostedFailure
  settleTimer : Timer
  removalFilter : Timer
  powerTimer : Option PowerTimer
  quiesceTimer : Timer
  deriving DecidableEq, Repr

/-- A slot record at part reset (R50). -/
def Slot.reset : Slot where
  state := .empty
  profile := none
  committedUnits := 0
  mainPower := false
  usableTags := none
  posted := none
  settleTimer := none
  removalFilter := none
  powerTimer := none
  quiesceTimer := none

/-! ### The Slot Link Engines -/

/-- The four link states (R90). -/
inductive LinkState where
  | down | training | up | quiescing
  deriving DecidableEq, Repr

/-- A Pending Queue entry (R37). `data` holds the size bytes of a WRITE in address order, and nothing for a READ. -/
structure Entry where
  window : WinIx
  op : Op
  addr : Word
  size : Size
  data : List Byte
  /-- absent ("none") for a posted write -/
  hostTag : Option HostTag
  deriving DecidableEq, Repr

/-- The fields of a link tag that is not FREE (R96). The field "posted" is the view `TagRecord.posted`. -/
structure TagRecord where
  window : WinIx
  hostTag : Option HostTag
  orphaned : Bool
  op : Op
  addr : Word
  size : Size
  /-- period in microseconds of the completion timer (IN_FLIGHT) or the quarantine timer (STALE) -/
  timer : Nat
  deriving DecidableEq, Repr

/-- A link tag (R96). -/
inductive LinkTag where
  | free
  | inFlight (r : TagRecord)
  | stale (r : TagRecord)
  deriving DecidableEq, Repr

/-- What a Slot Link Engine owns (R90, R37, R96, R94). -/
@[ext]
structure Link where
  state : LinkState
  /-- the Pending Queue, head first -/
  queue : List Entry
  tags : Tbl 8 LinkTag
  trainingTimer : Timer
  deriving DecidableEq, Repr

/-- An engine at part reset (R109). -/
def Link.reset : Link where
  state := .down
  queue := []
  tags := Tbl.fill .free
  trainingTimer := none

/-! ### The Identification Controller -/

/-- Where an identification attempt stands (R78). -/
inductive Phase where
  | busClear | header | body
  deriving DecidableEq, Repr

/-- The read in progress (R78). -/
structure ReadRecord where
  slot : SlotIx
  /-- 1 to 3 -/
  attempt : Nat
  clock : IdentClock
  phase : Phase
  /-- bytes of the part's acknowledged in the current transaction, 0 to 3; the model's own field (log 12) -/
  sent : Nat
  /-- the image bytes received in this attempt, from byte 0; their number is the field "bytes received" -/
  bytes : List Byte
  imageLength : Option Nat
  deriving DecidableEq, Repr

/-- The Identification Controller (R78): the read in progress is held in every state but IDLE, the retry timer runs
exactly in RETRY_WAIT (R82). -/
inductive IdentCtl where
  | idle
  | reading (r : ReadRecord)
  | retryWait (r : ReadRecord) (micros : Nat)
  | abandoning (r : ReadRecord)
  deriving DecidableEq, Repr

/-! ### The Attention Router -/

/-- A source record (R110). Bit k of `causes` is the cause R156 places at bit k. -/
@[ext]
structure Source where
  causes : Byte
  enable : Bool
  line : LineIx
  priority : Fin 8
  deriving DecidableEq, Repr

/-- A source record at part reset (R110). -/
def Source.reset : Source where
  causes := 0
  enable := false
  line := 0
  priority := 0

/-! ### The Command Engine -/

/-- The result codes (R133), encoded by R156. -/
inductive ResultCode where
  | ok | accepted | badCommand | badOperand | windowState | overlap | noFreeWindow | requestTaken | alignment
  | slotState | noProfile | noPower | budgetInUse | targetBusy | noTicket | noSuchTicket | ticketOpen
  deriving DecidableEq, Repr

/-- The engine's state (R125); the result code is present in DONE alone. -/
inductive EngineState where
  | idle
  | executing
  | finished (code : ResultCode)
  deriving DecidableEq, Repr

/-- What the Command Engine holds but the configuration record (R125). -/
@[ext]
structure Engine where
  state : EngineState
  operands : Tbl 4 Word
  takenCode : Word
  takenOperands : Tbl 4 Word
  results : Tbl 4 Word
  overrun : Bool
  deriving DecidableEq, Repr

/-- The engine at part reset (R125). -/
def Engine.reset : Engine where
  state := .idle
  operands := Tbl.fill 0
  takenCode := 0
  takenOperands := Tbl.fill 0
  results := Tbl.fill 0
  overrun := false

/-- The configuration record (R135). -/
structure PartConfig where
  settle : SettleTime
  power : PowerTimeout
  completion : CompletionTimeout
  clock : IdentClock
  /-- power units of 250 mW -/
  budget : Nat
  deriving DecidableEq, Repr

/-- The defaults of the configuration record (R135). -/
def PartConfig.reset : PartConfig where
  settle := .ms100
  power := .ms100
  completion := .ms2
  clock := .khz100
  budget := 0

/-! ### The Ticket Table -/

/-- Kind and target of a ticket (R139): a window for CLOSE, a slot for the others. -/
inductive TicketOp where
  | close (w : WinIx)
  | admission (n : SlotIx)
  | ejection (n : SlotIx)
  | recovery (n : SlotIx)
  deriving DecidableEq, Repr

/-- How a deferred operation ended (R139). -/
inductive TicketOutcome where
  | success | forced | failed | overtaken
  deriving DecidableEq, Repr

/-- What an outcome carries (R139). -/
inductive TicketDetail where
  | staged | free
  | fault (cause : FaultCause)
  deriving DecidableEq, Repr

/-- Where a ticket stands, with the fields present there (R139). -/
inductive TicketBody where
  | free
  | opened (op : TicketOp)
  | finished (op : TicketOp) (outcome : TicketOutcome) (detail : Option TicketDetail)
  deriving DecidableEq, Repr

/-- A ticket record (R139). -/
@[ext]
structure Ticket where
  sequence : Fin 32
  body : TicketBody
  deriving DecidableEq, Repr

/-- A ticket record at part reset (R139). -/
def Ticket.reset : Ticket where
  sequence := 0
  body := .free

/-! ### What the part sends in a step -/

/-- The response codes (R46), encoded by R148. -/
inductive RespCode where
  | ok | noWindow | windowClosed | denied | misaligned | retry | moduleError | timeout | slotFault | slotGone
  deriving DecidableEq, Repr

/-- A response on the host bus; `data` are the 32 data lanes of a READ answered OK (R148). -/
structure Response where
  code : RespCode
  data : Option Word
  deriving DecidableEq, Repr

/-- The packets the part sends on a slot link (R91). -/
inductive Packet where
  | training
  | read (tag : TagIx) (addr : Word) (size : Size)
  | write (tag : TagIx) (addr : Word) (size : Size) (data : List Byte)
  | quiesce
  deriving DecidableEq, Repr

/-- What passes on the identification link in a step (R79, R80, R81). In `received` the flag is the part's
acknowledge. -/
inductive BusItem where
  | clockPulse
  | start
  | address (device : BitVec 7) (op : Op)
  | offset (byte : Byte)
  | received (byte : Byte) (acked : Bool)
  /-- the byte in transfer at a removal, completed with its acknowledge bit; nobody takes account of either (R86) -/
  | abandoned
  | stop
  deriving DecidableEq, Repr

/-- What the part sent in the last step taken; the model's own field (log 8). Responses are indexed by host tag, so
responses of one step have no order among themselves (R148). -/
@[ext]
structure Outputs where
  responses : Tbl 16 (Option Response)
  packets : Tbl 8 (Option Packet)
  ident : List BusItem
  deriving DecidableEq, Repr

/-- Nothing sent. -/
def Outputs.nothing : Outputs where
  responses := Tbl.fill none
  packets := Tbl.fill none
  ident := []

/-! ### The part -/

/-- The state of the part. -/
@[ext]
structure State where
  /-- part reset is in force (R158) -/
  partReset : Bool
  /-- HRST_N is asserted (R153) -/
  hostReset : Bool
  /-- APSEL as sampled (R152) -/
  apStrap : Bool
  /-- CBSEL[1:0] as sampled (R152) -/
  cbStrap : BitVec 2
  /-- presence input of each slot, true while a module is seated (11.1) -/
  presence : Tbl 8 Bool
  /-- power-good input of each slot (11.1) -/
  powerGood : Tbl 8 Bool
  /-- Host Request Table: true for IN_FLIGHT (R149) -/
  hostTable : Tbl 16 Bool
  windows : Tbl 64 Window
  slots : Tbl 8 Slot
  links : Tbl 8 Link
  /-- the Identification Queue, head first (R75) -/
  identQueue : List SlotIx
  ident : IdentCtl
  sources : Tbl 18 Source
  /-- in-service set of each line: bit p for priority p (R112) -/
  lines : Tbl 4 Byte
  engine : Engine
  config : PartConfig
  tickets : Tbl 8 Ticket
  out : Outputs
  /-- the commands waiting, first in, first out -/
  pending : List Instr
  deriving DecidableEq, Repr

/-- No fault stops this machine: every command of the part has an effect the spec gives, and a slot fault (R63) is an
effect on `State`. Nobody raises a constructor, because there is none. -/
inductive Fault where
  deriving DecidableEq, Repr

/-- Why a command is refused. -/
inductive Refusal where
  /-- The command has no meaning in the model yet. Raised by `exec` alone, by no arm of this model. Safe. -/
  | notModelled (mnemonic : String)
  deriving DecidableEq, Repr

/-- The part right after part reset has ended: every record at the value its chapter gives for part reset. The inputs
stand as log 6 says: no module seated, no supply good, HRST_N deasserted, every strap sampled 0. -/
def State.reset : State where
  partReset := false
  hostReset := false
  apStrap := false
  cbStrap := 0
  presence := Tbl.fill false
  powerGood := Tbl.fill false
  hostTable := Tbl.fill false
  windows := Tbl.fill .free
  slots := Tbl.fill Slot.reset
  links := Tbl.fill Link.reset
  identQueue := []
  ident := .idle
  sources := Tbl.fill Source.reset
  lines := Tbl.fill 0
  engine := Engine.reset
  config := PartConfig.reset
  tickets := Tbl.fill Ticket.reset
  out := Outputs.nothing
  pending := []

end Sys2Proof.Machine
end

