-- ==== Sys2Proof/Machine/Flags.lean ====
section
/-! DEFINITION. The causes and the eligibility of the Attention Router (chapter 6), and the status and routing words
the host reads (R152, R156). -/

namespace Sys2Proof.Machine

/-! ### Sources and causes (R110, R156) -/

/-- Source MODULE(n). -/
def moduleSource (n : SlotIx) : Fin 18 := ⟨n.val, by omega⟩

/-- Source SLOT(n). -/
def slotSource (n : SlotIx) : Fin 18 := ⟨n.val + 8, by omega⟩

/-- Source COMMAND. -/
def commandSource : Fin 18 := 16

/-- Source PART. -/
def partSource : Fin 18 := 17

/-- The causes the part itself raises (6.1.2); the module causes come as a set (R104). -/
inductive Cause where
  | arrived (n : SlotIx)
  | admitted (n : SlotIx)
  | ejected (n : SlotIx)
  | removed (n : SlotIx)
  | faulted (n : SlotIx)
  | ejectRequested (n : SlotIx)
  | postedFailed (n : SlotIx)
  | cmdDone
  | ticketDone
  | hostTagReuse
  | spuriousEos
  | cmdOverrun
  deriving DecidableEq, Repr

/-- The source a cause belongs to (R110). -/
def Cause.source : Cause → Fin 18
  | .arrived n => slotSource n
  | .admitted n => slotSource n
  | .ejected n => slotSource n
  | .removed n => slotSource n
  | .faulted n => slotSource n
  | .ejectRequested n => slotSource n
  | .postedFailed n => slotSource n
  | .cmdDone => commandSource
  | .ticketDone => commandSource
  | .hostTagReuse => partSource
  | .spuriousEos => partSource
  | .cmdOverrun => partSource

/-- The bit of a cause within its source's cause set (R156). -/
def Cause.bit : Cause → Byte
  | .arrived _ => 0x01
  | .admitted _ => 0x02
  | .ejected _ => 0x04
  | .removed _ => 0x08
  | .faulted _ => 0x10
  | .ejectRequested _ => 0x20
  | .postedFailed _ => 0x40
  | .cmdDone => 0x01
  | .ticketDone => 0x02
  | .hostTagReuse => 0x01
  | .spuriousEos => 0x02
  | .cmdOverrun => 0x04

/-- Causes are added to a source's cause set (R111). -/
def Source.add (r : Source) (causes : Byte) : Source := { r with causes := r.causes ||| causes }

/-! ### In-service sets and eligibility (R112, R113) -/

/-- Priority `p` is in the in-service set. -/
def inService (set : Byte) (p : Fin 8) : Bool := set.getLsbD p.val

/-- The in-service maximum, or none for the empty set (R112). -/
def inServiceMax (set : Byte) : Option (Fin 8) := (List.finRange 8).reverse.find? (inService set)

/-- The in-service set with priority `p` (R115). -/
def serviceAdd (set : Byte) (p : Fin 8) : Byte := set ||| (1#8 <<< p.val)

/-- The in-service set without priority `p` (R117). -/
def serviceRemove (set : Byte) (p : Fin 8) : Byte := set &&& ~~~(1#8 <<< p.val)

/-- A priority is above the in-service maximum, or the set is empty (R113). -/
def above (set : Byte) (p : Fin 8) : Bool :=
  match inServiceMax set with
  | none => true
  | some m => decide (m < p)

/-- A source record is eligible on a line whose in-service set is `set` (R113). -/
def Source.eligible (r : Source) (l : LineIx) (set : Byte) : Bool :=
  r.line == l && r.enable && r.causes != 0 && above set r.priority

/-- Source `i` is eligible on line `l` (R113). -/
def State.eligible (s : State) (l : LineIx) (i : Fin 18) : Bool :=
  (s.sources.get i).eligible l (s.lines.get l)

/-- Line `l` is asserted: at least one source is eligible on it (R113). ATTN_N[l] is driven low exactly then (R159). -/
def State.lineAsserted (s : State) (l : LineIx) : Bool := (List.finRange 18).any (s.eligible l)

/-- No source eligible on line `l` has a greater priority than source `i`. -/
def State.topPriority (s : State) (l : LineIx) (i : Fin 18) : Bool :=
  (List.finRange 18).all fun j =>
    !s.eligible l j || decide ((s.sources.get j).priority ≤ (s.sources.get i).priority)

/-- The source an ACK on line `l` selects: among those eligible the highest priority, among several of that priority
the lowest source number (R115). -/
def State.selected (s : State) (l : LineIx) : Option (Fin 18) :=
  (List.finRange 18).find? fun i => s.eligible l i && s.topPriority l i

/-! ### Slot states and the power account (R55, R156) -/

/-- Main power is on in these states (R50, R55). -/
def SlotState.powered : SlotState → Bool
  | .powering | .linking | .active | .ejecting => true
  | _ => false

/-- The slot state codes (R156). -/
def SlotState.code : SlotState → Nat
  | .empty => 0
  | .settling => 1
  | .queued => 2
  | .identifying => 3
  | .identified => 4
  | .powering => 5
  | .linking => 6
  | .active => 7
  | .ejecting => 8
  | .faulted _ => 9

/-- The committed power: the sum of the committed units of the eight slots (R55). -/
def State.committed (s : State) : Nat :=
  ((List.finRange 8).map fun n => (s.slots.get n).committedUnits.toNat).sum

/-! ### The words of the control block (R152, R156) -/

/-- The result code field of the command status word (R156). -/
def ResultCode.code : ResultCode → Nat
  | .ok => 1
  | .accepted => 2
  | .badCommand => 3
  | .badOperand => 4
  | .windowState => 5
  | .overlap => 6
  | .noFreeWindow => 7
  | .requestTaken => 8
  | .alignment => 9
  | .slotState => 10
  | .noProfile => 11
  | .noPower => 12
  | .budgetInUse => 13
  | .targetBusy => 14
  | .noTicket => 15
  | .noSuchTicket => 16
  | .ticketOpen => 17

/-- The state field of the command status word (R156). -/
def EngineState.code : EngineState → Nat
  | .idle => 0
  | .executing => 1
  | .finished _ => 2

/-- The result code field: 0 for none (R125, R156). -/
def EngineState.result : EngineState → Nat
  | .finished c => c.code
  | _ => 0

/-- The command status word (R130, R156). -/
def Engine.statusWord (e : Engine) : Word :=
  place e.state.code 0 2 ||| place e.state.result 8 5 ||| flag e.overrun 16

/-- The part identification word (R152). -/
def State.identificationWord (s : State) : Word :=
  place Config.partCode 16 16 ||| place Config.revision 8 8 ||| place s.cbStrap.toNat 1 2 ||| flag s.apStrap 0

/-- The ACK word that returns a source and its cause set, or NONE (R156). -/
def ackWord : Option (Fin 18 × Byte) → Word
  | none => flag true 31
  | some (i, causes) => place i.val 0 5 ||| place causes.toNat 8 8

/-- The EOS word of a line, read: its in-service set (R156). -/
def eosWord (set : Byte) : Word := set.setWidth 32

/-- What the line summary shows of one line (R119, R156). -/
def State.lineByte (s : State) (l : LineIx) : Nat :=
  match inServiceMax (s.lines.get l) with
  | none => 128 * (s.lineAsserted l).toNat
  | some m => 128 * (s.lineAsserted l).toNat + 8 + m.val

/-- The line summary word (R119, R156). -/
def State.lineSummaryWord (s : State) : Word :=
  place (s.lineByte 0) 0 8 ||| place (s.lineByte 1) 8 8 ||| place (s.lineByte 2) 16 8 ||| place (s.lineByte 3) 24 8

/-- The slot summary word (R50, R156). -/
def State.slotSummaryWord (s : State) : Word :=
  (List.finRange 8).foldl (fun w n => w ||| place (s.slots.get n).state.code (4 * n.val) 4) 0

/-- The power account word (R55, R156). -/
def State.powerAccountWord (s : State) : Word := place s.committed 0 11 ||| place s.config.budget 16 12

/-- The response codes on the host bus (R148). -/
def RespCode.code : RespCode → Nat
  | .ok => 0
  | .noWindow => 1
  | .windowClosed => 2
  | .denied => 3
  | .misaligned => 4
  | .retry => 5
  | .moduleError => 6
  | .timeout => 7
  | .slotFault => 8
  | .slotGone => 9

end Sys2Proof.Machine
end

