-- ==== Sys2Proof/Machine/Operands.lean ====
section
/-! DEFINITION. Command codes, the operand words a command takes (R132, R154) and the result words it returns (R155). -/

namespace Sys2Proof.Machine

/-! ### Command codes (R154) -/

/-- The nineteen commands of the catalogue. -/
inductive Command where
  | nop | winStage | winOpen | winClose | winRelease | winRead | winLookup
  | slotRead | profileRead | slotAdmit | slotEject | slotRecover | slotClearPosted
  | srcRoute | srcRead | ticketRead | ticketCollect | partConfig | partConfigRead
  deriving DecidableEq, Repr

/-- The code of a command (R154). -/
def Command.code : Command → Word
  | .nop => 0x00
  | .winStage => 0x01
  | .winOpen => 0x02
  | .winClose => 0x03
  | .winRelease => 0x04
  | .winRead => 0x05
  | .winLookup => 0x06
  | .slotRead => 0x10
  | .profileRead => 0x11
  | .slotAdmit => 0x12
  | .slotEject => 0x13
  | .slotRecover => 0x14
  | .slotClearPosted => 0x15
  | .srcRoute => 0x20
  | .srcRead => 0x21
  | .ticketRead => 0x30
  | .ticketCollect => 0x31
  | .partConfig => 0x40
  | .partConfigRead => 0x41

/-- The nineteen commands, in the order of their codes. -/
def Command.all : List Command :=
  [.nop, .winStage, .winOpen, .winClose, .winRelease, .winRead, .winLookup, .slotRead, .profileRead, .slotAdmit,
    .slotEject, .slotRecover, .slotClearPosted, .srcRoute, .srcRead, .ticketRead, .ticketCollect, .partConfig,
    .partConfigRead]

/-- The code word holds one of the nineteen defined codes, taken as a whole 32-bit value (R132 check 1, R154). -/
def definedCode (w : Word) : Bool := Command.all.any fun c => c.code == w

/-! ### Coded values -/

/-- Rights code: 1 READ, 2 WRITE, 3 READ+WRITE; 0 undefined (R154). -/
def rightsOf : Nat → Option Rights
  | 1 => some .read
  | 2 => some .write
  | 3 => some .readWrite
  | _ => none

/-- The rights code (R155). -/
def Rights.code : Rights → Nat
  | .read => 1
  | .write => 2
  | .readWrite => 3

/-- Kind code: 0 MEM, 1 REG (R154). -/
def kindOf : Nat → Option Kind
  | 0 => some .mem
  | 1 => some .reg
  | _ => none

/-- The kind code (R155). -/
def Kind.code : Kind → Nat
  | .mem => 0
  | .reg => 1

/-- Settle time code (R154). -/
def settleOf : Nat → Option SettleTime
  | 0 => some .ms25
  | 1 => some .ms50
  | 2 => some .ms100
  | 3 => some .ms200
  | _ => none

/-- The settle time code (R155). -/
def settleCode : SettleTime → Nat
  | .ms25 => 0
  | .ms50 => 1
  | .ms100 => 2
  | .ms200 => 3

/-- Power timeout code (R154). -/
def powerOf : Nat → Option PowerTimeout
  | 0 => some .ms50
  | 1 => some .ms100
  | 2 => some .ms200
  | 3 => some .ms400
  | _ => none

/-- The power timeout code (R155). -/
def powerCode : PowerTimeout → Nat
  | .ms50 => 0
  | .ms100 => 1
  | .ms200 => 2
  | .ms400 => 3

/-- Completion timeout code: 7 undefined (R154). -/
def completionOf : Nat → Option CompletionTimeout
  | 0 => some .us250
  | 1 => some .us500
  | 2 => some .ms1
  | 3 => some .ms2
  | 4 => some .ms4
  | 5 => some .ms8
  | 6 => some .ms16
  | _ => none

/-- The completion timeout code (R155). -/
def completionCode : CompletionTimeout → Nat
  | .us250 => 0
  | .us500 => 1
  | .ms1 => 2
  | .ms2 => 3
  | .ms4 => 4
  | .ms8 => 5
  | .ms16 => 6

/-- Identification clock code (R154). -/
def clockOf : Nat → Option IdentClock
  | 0 => some .khz100
  | 1 => some .khz400
  | _ => none

/-- The identification clock code (R155). -/
def clockCode : IdentClock → Nat
  | .khz100 => 0
  | .khz400 => 1

/-- A number below `n` as an index, or none: the range check of an index operand (R132). -/
def indexOf (n v : Nat) : Option (Fin n) := if h : v < n then some ⟨v, h⟩ else none

/-! ### Operands: `none` is BAD_OPERAND by common check 2 or 3 (R132) -/

/-- The operands of WIN_STAGE (1.3); `window` is absent for ANY, `request` for NONE. -/
structure StageOperands where
  window : Option WinIx
  slot : SlotIx
  request : Option (Fin 6)
  rights : Rights
  base : Nat
  kind : Kind
  pages : Nat
  moduleBase : Nat
  deriving DecidableEq, Repr

/-- The window operand of WIN_STAGE: 0 to 63, or 0x7F for ANY (R154). -/
def stageWindowOf (v : Nat) : Option (Option WinIx) :=
  if v = 0x7F then some none else (indexOf 64 v).map some

/-- The request operand of WIN_STAGE: 0 to 5, or 7 for NONE (R154). -/
def stageRequestOf (v : Nat) : Option (Option (Fin 6)) :=
  if v = 7 then some none else (indexOf 6 v).map some

/-- WIN_STAGE. With a request, words 2 and 3 are not used and not checked (R154). -/
def stageOperands (o : Tbl 4 Word) : Option StageOperands := do
  let w0 := o.get 0
  let window ← stageWindowOf (field w0 0 7)
  let slot ← indexOf 8 (field w0 8 3)
  let request ← stageRequestOf (field w0 12 3)
  let rights ← rightsOf (field w0 16 2)
  let kind ← kindOf (field w0 20 1)
  if within w0 0x0013777F && within (o.get 1) 0x0003FFFF
      && (request.isSome || within (o.get 2) 0x0001FFFF && within (o.get 3) 0x000FFFFF) then
    some
      { window, slot, request, rights, kind
        base := field (o.get 1) 0 18
        pages := field (o.get 2) 0 17
        moduleBase := field (o.get 3) 0 20 }
  else none

/-- The window operand of WIN_OPEN, WIN_CLOSE, WIN_RELEASE and WIN_READ. -/
def windowOperand (o : Tbl 4 Word) : Option WinIx :=
  if within (o.get 0) 0x3F then indexOf 64 (field (o.get 0) 0 6) else none

/-- The aperture page operand of WIN_LOOKUP. -/
def pageOperand (o : Tbl 4 Word) : Option Nat :=
  if within (o.get 0) 0x3FFFF then some (field (o.get 0) 0 18) else none

/-- The slot operand of SLOT_READ, SLOT_ADMIT, SLOT_EJECT, SLOT_RECOVER and SLOT_CLEAR_POSTED. -/
def slotOperand (o : Tbl 4 Word) : Option SlotIx :=
  if within (o.get 0) 0x7 then indexOf 8 (field (o.get 0) 0 3) else none

/-- The slot and item operands of PROFILE_READ. -/
def profileOperands (o : Tbl 4 Word) : Option (SlotIx × Fin 7) := do
  let slot ← indexOf 8 (field (o.get 0) 0 3)
  let item ← indexOf 7 (field (o.get 0) 8 3)
  if within (o.get 0) 0x707 then some (slot, item) else none

/-- The operands of SRC_ROUTE (R120). -/
structure RouteOperands where
  source : Fin 18
  enable : Bool
  line : LineIx
  priority : Fin 8
  deriving DecidableEq, Repr

/-- SRC_ROUTE. -/
def routeOperands (o : Tbl 4 Word) : Option RouteOperands := do
  let w := o.get 0
  let source ← indexOf 18 (field w 0 5)
  let line ← indexOf 4 (field w 12 2)
  let priority ← indexOf 8 (field w 16 3)
  if within w 0x0007311F then some { source, enable := field w 8 1 == 1, line, priority } else none

/-- The source operand of SRC_READ. -/
def sourceOperand (o : Tbl 4 Word) : Option (Fin 18) :=
  if within (o.get 0) 0x1F then indexOf 18 (field (o.get 0) 0 5) else none

/-- The ticket id operand of TICKET_READ and TICKET_COLLECT. -/
def ticketOperand (o : Tbl 4 Word) : Option Nat :=
  if within (o.get 0) 0xFF then some (field (o.get 0) 0 8) else none

/-- The five fields of PART_CONFIG (R136, R154). -/
def configOperands (o : Tbl 4 Word) : Option PartConfig := do
  let w := o.get 0
  let settle ← settleOf (field w 0 2)
  let power ← powerOf (field w 4 2)
  let completion ← completionOf (field w 8 3)
  let clock ← clockOf (field w 12 1)
  let budget := field (o.get 1) 0 12
  if budget ≤ Config.maxBudget && within w 0x1733 && within (o.get 1) 0xFFF then
    some { settle, power, completion, clock, budget }
  else none

/-! ### Result words (R155) -/

/-- No result words. -/
def noWords : Tbl 4 Word := Tbl.fill 0

/-- One value in result word 0: the window index of WIN_STAGE, a ticket id. -/
def indexWords (v len : Nat) : Tbl 4 Word := words (place v 0 len) 0 0 0

/-- The window state code (R155). -/
def Window.code : Window → Nat
  | .free => 0
  | .staged _ => 1
  | .opened _ _ => 2
  | .closing _ _ _ _ => 3

/-- The mapping of a window that is not FREE (R1). -/
def Window.mapping : Window → Option Mapping
  | .free => none
  | .staged m => some m
  | .opened m _ => some m
  | .closing m _ _ _ => some m

/-- The references of a window: 0 in FREE and STAGED (R1, R18). -/
def Window.refs : Window → Nat
  | .free => 0
  | .staged _ => 0
  | .opened _ r => r
  | .closing _ r _ _ => r

/-- The disposition of a CLOSING window (R1). -/
def Window.disposition : Window → Option Disposition
  | .closing _ _ d _ => some d
  | _ => none

/-- The close ticket of a CLOSING window under a WIN_CLOSE (R1). -/
def Window.closeTicket : Window → Option Nat
  | .closing _ _ _ t => t
  | _ => none

/-- The disposition code (R155). -/
def Disposition.code : Disposition → Nat
  | .toStaged => 0
  | .toFree => 1

/-- Result word 0 of WIN_READ for a mapping: slot, request, kind, rights. -/
def Mapping.word0 (m : Mapping) : Word :=
  place m.slot.val 4 3 ||| (match m.request with | none => 0 | some q => place q.val 8 3 ||| flag true 11)
    ||| place m.kind.code 12 1 ||| place m.rights.code 16 2

/-- Result word 1 of WIN_READ for the close ticket. -/
def closeTicketWord : Option Nat → Word
  | none => 0
  | some t => flag true 23 ||| place t 24 8

/-- Result word 2 of WIN_READ for the disposition. -/
def dispositionWord : Option Disposition → Word
  | none => 0
  | some d => flag true 24 ||| place d.code 25 1

/-- The result words of WIN_READ (R26). -/
def winReadWords (w : Window) : Tbl 4 Word :=
  match w.mapping with
  | none => words (place w.code 0 2) 0 0 0
  | some m =>
    words (place w.code 0 2 ||| m.word0 ||| place w.refs 24 5) (place m.base 0 18 ||| closeTicketWord w.closeTicket)
      (place m.pages 0 17 ||| dispositionWord w.disposition) (place m.moduleBase 0 20)

/-- The result words of WIN_LOOKUP (R27). -/
def winLookupWords : Option (WinIx × Window) → Tbl 4 Word
  | none => words (flag true 31) 0 0 0
  | some (i, w) => words (place i.val 0 6 ||| place w.code 8 2) 0 0 0

/-- The fault cause code (R155). -/
def FaultCause.code : FaultCause → Nat
  | .identNoAnswer => 1
  | .identBadImage => 2
  | .powerTimeout => 3
  | .powerLost => 4
  | .linkTimeout => 5
  | .linkProtocol => 6
  | .linkLost => 7

/-- The fault cause of a slot state, absent outside FAULTED (R50). -/
def SlotState.faultCause : SlotState → Option FaultCause
  | .faulted c => some c
  | _ => none

/-- The posted-failure cause code (R155). -/
def PostedCause.code : PostedCause → Nat
  | .moduleError => 1
  | .timeout => 2
  | .aborted => 3

/-- The result words of SLOT_READ for a slot record and the id of its OPEN ticket (R72). -/
def slotReadWords (r : Slot) (ticket : Option Nat) : Tbl 4 Word :=
  words
    (place r.state.code 0 4 ||| place (r.state.faultCause.elim 0 FaultCause.code) 4 4
      ||| (match r.profile with
          | none => 0
          | some p => flag true 8 ||| place p.requests.length 9 3 ||| place p.powerUnits.toNat 16 8)
      ||| place r.committedUnits.toNat 24 8)
    (place (r.usableTags.getD 0) 0 4 ||| (match ticket with | none => 0 | some t => flag true 8 ||| place t 16 8))
    (match r.posted with
      | none => 0
      | some f => flag true 31 ||| flag f.more 30 ||| place f.cause.code 28 2 ||| place f.window.val 0 6)
    (match r.posted with
      | none => 0
      | some f => f.addr)

/-- The result words of PROFILE_READ for item 0 (R89). -/
def identityWords (p : Profile) : Tbl 4 Word :=
  words (place p.vendorCode.toNat 0 16 ||| place p.moduleKind.toNat 16 16)
    (place p.revision.toNat 0 8 ||| place p.powerUnits.toNat 8 8 ||| place p.attentionMask.toNat 16 8
      ||| place p.hardwareBuild.toNat 24 8)
    p.serial (place p.requests.length 0 3)

/-- The result words of PROFILE_READ for request `q`, with the window that grants it (R89). -/
def requestWords (q : Fin 6) (r : Request) (grantedBy : Option WinIx) : Tbl 4 Word :=
  words
    (place q.val 0 3 ||| place r.kind.code 4 1 ||| flag r.writable 5 ||| place r.alignment 8 5
      ||| (match grantedBy with | none => 0 | some w => flag true 15 ||| place w.val 16 6))
    (place r.pages 0 17) (place r.base 0 20) 0

/-- The result words of SRC_READ (R122). -/
def srcReadWords (r : Source) : Tbl 4 Word :=
  words (place r.causes.toNat 0 8 ||| flag r.enable 8 ||| place r.line.val 12 2 ||| place r.priority.val 16 3) 0 0 0

/-- The ticket kind code (R155). -/
def TicketOp.code : TicketOp → Nat
  | .close _ => 0
  | .admission _ => 1
  | .ejection _ => 2
  | .recovery _ => 3

/-- The number of a ticket's target (R155). -/
def TicketOp.target : TicketOp → Nat
  | .close w => w.val
  | .admission n => n.val
  | .ejection n => n.val
  | .recovery n => n.val

/-- The outcome code (R155). -/
def TicketOutcome.code : TicketOutcome → Nat
  | .success => 1
  | .forced => 2
  | .failed => 3
  | .overtaken => 4

/-- The detail code (R155). -/
def TicketDetail.code : TicketDetail → Nat
  | .staged => 1
  | .free => 2
  | .fault c => c.code

/-- The result words of TICKET_READ; none for a FREE record (R144). -/
def ticketReadWords : TicketBody → Option (Tbl 4 Word)
  | .free => none
  | .opened op => some (words (place 1 0 2 ||| place op.code 4 2 ||| place op.target 8 6) 0 0 0)
  | .finished op outcome detail =>
    some (words
      (place 2 0 2 ||| place op.code 4 2 ||| place op.target 8 6 ||| place outcome.code 16 3
        ||| place (detail.elim 0 TicketDetail.code) 24 4) 0 0 0)

/-- The result words of PART_CONFIG_READ (R137). -/
def configWords (c : PartConfig) : Tbl 4 Word :=
  words
    (place (settleCode c.settle) 0 2 ||| place (powerCode c.power) 4 2 ||| place (completionCode c.completion) 8 3
      ||| place (clockCode c.clock) 12 1)
    (place c.budget 0 12) 0 0

end Sys2Proof.Machine
end

