-- ==== Sys2Proof/Machine/Ops.lean ====
section
/-! DEFINITION. The named operations the meanings share: one for each thing the spec describes once and many rows use
(raising a cause, answering a host tag, releasing a reference, the drain, completing a ticket, the teardown, a slot
fault, the end of an ejection, the quiesce test, serving the Identification Queue, completing a command). -/

namespace Sys2Proof.Machine

/-! ### One record replaced -/

/-- The outputs cleared: a step sends what it sends and nothing of the step before (R148). -/
def State.quiet (s : State) : State := { s with out := Outputs.nothing }

/-- A Host Request Table entry set: true for IN_FLIGHT (R149). -/
def State.putHostTag (s : State) (t : HostTag) (b : Bool) : State := { s with hostTable := s.hostTable.put t b }

/-- A window record replaced. -/
def State.putWindow (s : State) (w : WinIx) (x : Window) : State := { s with windows := s.windows.put w x }

/-- A slot record replaced. -/
def State.putSlot (s : State) (n : SlotIx) (r : Slot) : State := { s with slots := s.slots.put n r }

/-- An engine's records replaced. -/
def State.putLink (s : State) (n : SlotIx) (l : Link) : State := { s with links := s.links.put n l }

/-- A source record replaced. -/
def State.putSource (s : State) (i : Fin 18) (r : Source) : State := { s with sources := s.sources.put i r }

/-- An in-service set replaced. -/
def State.putLine (s : State) (l : LineIx) (set : Byte) : State := { s with lines := s.lines.put l set }

/-- A ticket record replaced. -/
def State.putTicket (s : State) (k : Fin 8) (t : Ticket) : State := { s with tickets := s.tickets.put k t }

/-- The Command Engine's records replaced. -/
def State.putEngine (s : State) (e : Engine) : State := { s with engine := e }

/-- The Identification Controller replaced. -/
def State.putIdent (s : State) (c : IdentCtl) : State := { s with ident := c }

/-- The Identification Queue replaced. -/
def State.putIdentQueue (s : State) (q : List SlotIx) : State := { s with identQueue := q }

/-- The level of a presence input. -/
def State.putPresence (s : State) (n : SlotIx) (b : Bool) : State := { s with presence := s.presence.put n b }

/-- The level of a power-good input. -/
def State.putPowerGood (s : State) (n : SlotIx) (b : Bool) : State := { s with powerGood := s.powerGood.put n b }

/-- A response recorded as sent in this step (R148). -/
def State.putResponse (s : State) (t : HostTag) (r : Response) : State :=
  { s with out := { s.out with responses := s.out.responses.put t (some r) } }

/-- A packet recorded as sent on a slot link in this step (R91). -/
def State.send (s : State) (n : SlotIx) (p : Packet) : State :=
  { s with out := { s.out with packets := s.out.packets.put n (some p) } }

/-- What passed on the identification link in this step (R79, R80, R81). -/
def State.onIdentLink (s : State) (items : List BusItem) : State :=
  { s with out := { s.out with ident := items } }

/-! ### Steps -/

/-- A command's outcome: the next state. While part reset is in force every record is held and no event is taken
(R158). -/
def taken (f : State → State) (s : State) : Host.Outcome State Fault Refusal :=
  .next (if s.partReset then s.quiet else f s.quiet)

/-! ### Attention (R111) -/

/-- A cause is added to the cause set of its source. -/
def State.raise (s : State) (c : Cause) : State :=
  s.putSource c.source ((s.sources.get c.source).add c.bit)

/-! ### Host responses (R148, R149) -/

/-- The response under a host tag is sent and the tag is freed. -/
def State.answer (s : State) (t : HostTag) (code : RespCode) (data : Option Word) : State :=
  (s.putResponse t { code, data }).putHostTag t false

/-! ### Tickets (chapter 8) -/

/-- The current id of a ticket record (R140). -/
def Ticket.id (t : Ticket) (k : Fin 8) : Nat := t.sequence.val * 8 + k.val

/-- The record index of a ticket id (R140). -/
def ticketIndex (id : Nat) : Fin 8 := ⟨id % 8, Nat.mod_lt _ (by omega)⟩

/-- The ticket's target is this window (R139). -/
def TicketOp.onWindow (w : WinIx) : TicketOp → Bool
  | .close v => v == w
  | _ => false

/-- The ticket's target is this slot (R139). -/
def TicketOp.onSlot (n : SlotIx) : TicketOp → Bool
  | .close _ => false
  | .admission m => m == n
  | .ejection m => m == n
  | .recovery m => m == n

/-- The ticket is OPEN for an operation that `p` accepts. -/
def Ticket.openFor (p : TicketOp → Bool) (t : Ticket) : Bool :=
  match t.body with
  | .opened op => p op
  | _ => false

/-- The OPEN ticket whose target `p` accepts, of which there is at most one (R142). -/
def State.openTicket (s : State) (p : TicketOp → Bool) : Option (Fin 8) :=
  (List.finRange 8).find? fun k => (s.tickets.get k).openFor p

/-- The lowest FREE ticket record (R141). -/
def State.freeTicket (s : State) : Option (Fin 8) :=
  (List.finRange 8).find? fun k => (s.tickets.get k).body == .free

/-- A ticket record after allocation: its sequence raised by 1 modulo 32, OPEN (R141). -/
def Ticket.allocate (t : Ticket) (op : TicketOp) : Ticket := { sequence := t.sequence + 1, body := .opened op }

/-- An OPEN ticket is completed and TICKET_DONE is raised; a completion reaches an OPEN ticket alone (R143). -/
def State.finishTicket (s : State) (k : Fin 8) (outcome : TicketOutcome) (detail : Option TicketDetail) : State :=
  match (s.tickets.get k).body with
  | .opened op =>
    (s.putTicket k { s.tickets.get k with body := .finished op outcome detail }).raise .ticketDone
  | _ => s

/-- The OPEN ticket that a window's close ticket field names is completed (R20, R143). -/
def State.finishTicketById (s : State) (id : Nat) (outcome : TicketOutcome) (detail : Option TicketDetail) : State :=
  if (s.tickets.get (ticketIndex id)).id (ticketIndex id) = id then s.finishTicket (ticketIndex id) outcome detail
  else s

/-- The OPEN ticket whose target is the slot, if there is one, is completed (3.10). -/
def State.finishSlotTicket (s : State) (n : SlotIx) (outcome : TicketOutcome) (detail : Option TicketDetail) : State :=
  match s.openTicket (TicketOp.onSlot n) with
  | none => s
  | some k => s.finishTicket k outcome detail

/-! ### Windows (chapter 1) -/

/-- The window is not FREE and covers the aperture page (R3). -/
def Window.covers (x : Window) (page : Nat) : Bool :=
  match x.mapping with
  | none => false
  | some m => decide (m.base ≤ page ∧ page < m.base + m.pages)

/-- The Window Table's lookup of an aperture page (R3). -/
def State.lookup (s : State) (page : Nat) : Option WinIx :=
  (List.finRange 64).find? fun w => (s.windows.get w).covers page

/-- The window is not FREE and belongs to the slot. -/
def Window.ofSlot (n : SlotIx) (x : Window) : Bool :=
  match x.mapping with
  | none => false
  | some m => m.slot == n

/-- The window is not FREE and grants this request of this slot (R9). -/
def Window.grants (n : SlotIx) (q : Fin 6) (x : Window) : Bool :=
  match x.mapping with
  | none => false
  | some m => m.slot == n && m.request == some q

/-- The window that grants a request of a slot (R9, R89). -/
def State.granting (s : State) (n : SlotIx) (q : Fin 6) : Option WinIx :=
  (List.finRange 64).find? fun w => (s.windows.get w).grants n q

/-- The window is not FREE and covers a page from `base` to `base + pages - 1` (R10). -/
def Window.meets (base pages : Nat) (x : Window) : Bool :=
  match x.mapping with
  | none => false
  | some m => decide (m.base < base + pages ∧ base < m.base + m.pages)

/-- Some window that is not FREE covers a page of the range (R10). -/
def State.overlaps (s : State) (base pages : Nat) : Bool :=
  (List.finRange 64).any fun w => (s.windows.get w).meets base pages

/-- The lowest FREE window record (R11). -/
def State.freeWindow (s : State) : Option WinIx :=
  (List.finRange 64).find? fun w => s.windows.get w == .free

/-- The state a drained window takes (R20). -/
def Disposition.drained (m : Mapping) : Disposition → Window
  | .toStaged => .staged m
  | .toFree => .free

/-- The detail of a close ticket: the state the window reached at the drain (R14, R20). -/
def Disposition.detail : Disposition → TicketDetail
  | .toStaged => .staged
  | .toFree => .free

/-- The drain of a CLOSING window: it takes its disposition, and its close ticket, if it has one, completes SUCCESS
with the state reached (R20). -/
def State.drain (s : State) (w : WinIx) (m : Mapping) (d : Disposition) (ticket : Option Nat) : State :=
  match ticket with
  | none => s.putWindow w (d.drained m)
  | some id => (s.putWindow w (d.drained m)).finishTicketById id .success (some d.detail)

/-- One reference of a window is released; a CLOSING window whose count reaches 0 drains in the step (R18, R19). -/
def State.releaseRef (s : State) (w : WinIx) : State :=
  match s.windows.get w with
  | .free => s
  | .staged _ => s
  | .opened m refs => s.putWindow w (.opened m (refs - 1))
  | .closing m refs d ticket =>
    if refs - 1 = 0 then s.drain w m d ticket else s.putWindow w (.closing m (refs - 1) d ticket)

/-- A window of a slot that leaves ACTIVE: an OPEN one becomes CLOSING with TO_STAGED and no close ticket, and is
drained at once when its references are 0 (R21, R22). -/
def Window.leaveActive (n : SlotIx) (x : Window) : Window :=
  match x with
  | .opened m refs =>
    if m.slot = n then (if refs = 0 then .staged m else .closing m refs .toStaged none) else x
  | _ => x

/-- A window of a slot whose module is removed: freed, or made CLOSING with TO_FREE (R23). -/
def Window.remove (n : SlotIx) (x : Window) : Window :=
  match x with
  | .free => x
  | .staged m => if m.slot = n then .free else x
  | .opened m refs =>
    if m.slot = n then (if refs = 0 then .free else .closing m refs .toFree none) else x
  | .closing m refs _ ticket => if m.slot = n then .closing m refs .toFree ticket else x

/-- A window of a slot under SLOT_RECOVER: a STAGED one becomes FREE (R24). -/
def Window.recover (n : SlotIx) (x : Window) : Window :=
  match x with
  | .staged m => if m.slot = n then .free else x
  | _ => x

/-- Every window changed by the same rule. -/
def State.eachWindow (s : State) (f : Window → Window) : State := { s with windows := s.windows.each fun _ => f }

/-! ### Slots (chapter 3) -/

/-- Main power enable goes off, the units return to the account, the power and quiesce timers stop, and the usable tags
become absent with the link going DOWN (R55, R63, R69). -/
def Slot.powerOff (r : Slot) : Slot :=
  { r with mainPower := false, committedUnits := 0, powerTimer := none, quiesceTimer := none, usableTags := none }

/-- A posted write of the slot failed after it was answered (R67). -/
def State.recordPosted (s : State) (n : SlotIx) (w : WinIx) (addr : Word) (cause : PostedCause) : State :=
  match (s.slots.get n).posted with
  | none =>
    (s.putSlot n { s.slots.get n with posted := some { window := w, addr, cause, more := false } }).raise
      (.postedFailed n)
  | some f =>
    if f.more then s
    else (s.putSlot n { s.slots.get n with posted := some { f with more := true } }).raise (.postedFailed n)

/-! ### Slot links (chapter 5) -/

/-- What the transmitter of a slot sends in a step: the packet of the step, or training sequences for as long as the
link is TRAINING (R91, R94). -/
def State.transmits (s : State) (n : SlotIx) : Option Packet :=
  match s.out.packets.get n with
  | some p => some p
  | none => if (s.links.get n).state = .training then some .training else none

/-- The request is a posted write: it has no host tag (R98). -/
def TagRecord.posted (r : TagRecord) : Bool := r.hostTag.isNone

/-- The tag is IN_FLIGHT. -/
def LinkTag.isInFlight : LinkTag → Bool
  | .inFlight _ => true
  | _ => false

/-- A STALE tag is dropped and becomes FREE (R68). -/
def LinkTag.dropStale : LinkTag → LinkTag
  | .stale _ => .free
  | t => t

/-- The number of IN_FLIGHT and STALE tags (R97). -/
def Link.tagsInUse (l : Link) : Nat := ((List.finRange 8).filter fun k => l.tags.get k != .free).length

/-- The lowest FREE link tag (R98). -/
def Link.freeTag (l : Link) : Option TagIx := (List.finRange 8).find? fun k => l.tags.get k == .free

/-- The tag record replaced. -/
def Link.putTag (l : Link) (k : TagIx) (t : LinkTag) : Link := { l with tags := l.tags.put k t }

/-- A request that a teardown aborts: an IN_FLIGHT tag or a Pending Queue entry. -/
structure Owed where
  window : WinIx
  hostTag : Option HostTag
  orphaned : Bool
  addr : Word
  deriving DecidableEq, Repr

/-- What an IN_FLIGHT tag owes. -/
def LinkTag.owed : LinkTag → Option Owed
  | .inFlight r => some { window := r.window, hostTag := r.hostTag, orphaned := r.orphaned, addr := r.addr }
  | _ => none

/-- What a Pending Queue entry owes. -/
def Entry.owed (e : Entry) : Owed := { window := e.window, hostTag := e.hostTag, orphaned := false, addr := e.addr }

/-- What a teardown aborts, in its order: IN_FLIGHT tags in ascending index, then the queue from head to tail (R41,
R108). -/
def Link.owed (l : Link) : List Owed :=
  ((List.finRange 8).filterMap fun k => (l.tags.get k).owed) ++ l.queue.map Entry.owed

/-- Why a slot is torn down: a fault (or link loss during EJECTING), or a removal (R108). -/
inductive Teardown where
  | fault | removal
  deriving DecidableEq, Repr

/-- The code that answers an aborted access (R41, R108). -/
def Teardown.code : Teardown → RespCode
  | .fault => .slotFault
  | .removal => .slotGone

/-- One request aborted: its reference is released, and it is answered or recorded (R41, R108). -/
def State.abort (n : SlotIx) (why : Teardown) (s : State) (o : Owed) : State :=
  match o.hostTag with
  | some t => if o.orphaned then s.releaseRef o.window else (s.releaseRef o.window).answer t why.code none
  | none =>
    match why with
    | .fault => (s.releaseRef o.window).recordPosted n o.window o.addr .aborted
    | .removal => s.releaseRef o.window

/-- The Slot Link Engine's part of a teardown: every IN_FLIGHT tag aborted, the Pending Queue flushed, every STALE tag
dropped, the link DOWN and the training timer stopped (R108). -/
def State.teardown (s : State) (n : SlotIx) (why : Teardown) : State :=
  ((s.links.get n).owed.foldl (State.abort n why) s).putLink n Link.reset

/-- A slot faults: windows out of OPEN, teardown, power off, FAULTED with the cause, FAULTED raised, and the slot's
OPEN ticket completed FAILED with the cause (R63). -/
def State.faultSlot (s : State) (n : SlotIx) (cause : FaultCause) : State :=
  let s1 := (s.eachWindow (Window.leaveActive n)).teardown n .fault
  let s2 := s1.putSlot n { (s1.slots.get n).powerOff with state := .faulted cause }
  (s2.raise (.faulted n)).finishSlotTicket n .failed (some (.fault cause))

/-- An ejection ends: link DOWN, power off, units returned, IDENTIFIED, EJECTED raised, the EJECT ticket completed
(R69). -/
def State.endEjection (s : State) (n : SlotIx) (outcome : TicketOutcome) : State :=
  let s1 := s.putLink n { s.links.get n with state := .down }
  let s2 := s1.putSlot n { (s1.slots.get n).powerOff with state := .identified }
  (s2.raise (.ejected n)).finishSlotTicket n outcome none

/-- A link loss while EJECTING: queued and in-flight work is aborted as in a fault teardown, and the ejection ends
FORCED (R70). -/
def State.abortEjection (s : State) (n : SlotIx) : State := (s.teardown n .fault).endEjection n .forced

/-- The quiesce condition of an EJECTING slot whose QUIESCE has not been sent: every window of the slot has references
0 and no link tag of the slot is IN_FLIGHT (R68). -/
def State.quiesceHolds (s : State) (n : SlotIx) : Bool :=
  (s.slots.get n).state == .ejecting && (s.links.get n).state == .up
    && ((List.finRange 64).all fun w => !(s.windows.get w).ofSlot n || (s.windows.get w).refs == 0)
    && (List.finRange 8).all fun k => !((s.links.get n).tags.get k).isInFlight

/-- The quiesce test: in the first step in which the condition holds every STALE tag is dropped, QUIESCE is sent, the
link becomes QUIESCING and the quiesce timer starts (R68, R106). -/
def State.testQuiesce (s : State) (n : SlotIx) : State :=
  if s.quiesceHolds n then
    let l := s.links.get n
    ((s.putLink n { l with state := .quiescing, tags := l.tags.each fun _ => LinkTag.dropStale }).putSlot n
      { s.slots.get n with quiesceTimer := some Config.quiesceMicros }).send n .quiesce
  else s

/-! ### Identification (chapter 4) -/

/-- The slot select multiplexer connects the link to the slot in service, to none in IDLE (R78). -/
def IdentCtl.select : IdentCtl → Option SlotIx
  | .idle => none
  | .reading r => some r.slot
  | .retryWait r _ => some r.slot
  | .abandoning r => some r.slot

/-- The part drives neither wire of the identification link: in IDLE and in RETRY_WAIT (R78). -/
def IdentCtl.released : IdentCtl → Bool
  | .idle => true
  | .reading _ => false
  | .retryWait _ _ => true
  | .abandoning _ => false

/-- The read in progress at the start of an attempt (R79). -/
def ReadRecord.start (n : SlotIx) (attempt : Nat) (clock : IdentClock) : ReadRecord where
  slot := n
  attempt := attempt
  clock := clock
  phase := .busClear
  sent := 0
  bytes := []
  imageLength := none

/-- The bytes the part sends to open the transaction of the phase, less those acknowledged, each with the start condition
before it (R80, R81); none in the bus clear. -/
def ReadRecord.opening (r : ReadRecord) : List (List BusItem) :=
  let transaction (offset : Byte) : List (List BusItem) :=
    [[.start, .address Config.identAddress .write], [.offset offset], [.start, .address Config.identAddress .read]]
  match r.phase with
  | .busClear => []
  | .header => (transaction 0).drop r.sent
  | .body => (transaction 4).drop r.sent

/-- What passes on the link before the next byte: the pulses of a bus clear, or a start condition (R79, R80, R81). -/
def ReadRecord.beforeByte (r : ReadRecord) : List BusItem :=
  match r.phase, r.opening with
  | .busClear, _ => List.replicate 9 .clockPulse
  | _, (.start :: _) :: _ => [.start]
  | _, _ => []

/-- An IDLE controller takes the head of the Identification Queue into service (R76). -/
def State.serveIdent (s : State) : State :=
  match s.ident, s.identQueue with
  | .idle, n :: rest =>
    ((s.putIdentQueue rest).putSlot n { s.slots.get n with state := .identifying }).putIdent
      (.reading (ReadRecord.start n 1 s.config.clock))
  | _, _ => s

/-- A slot becomes QUEUED and joins the tail of the Identification Queue, which is served at once when the controller
is IDLE (R75, R76). -/
def State.enqueueIdent (s : State) (n : SlotIx) : State := (s.putIdentQueue (s.identQueue ++ [n])).serveIdent

/-- The controller returns to IDLE and takes the next head of the queue in the same step (R76). -/
def State.identIdle (s : State) : State := (s.putIdent .idle).serveIdent

/-- A read ends in failure: the slot FAULTED with the cause, FAULTED raised, a RECOVER ticket FAILED, the controller
IDLE (R54, R84). -/
def State.readFails (s : State) (r : ReadRecord) (cause : FaultCause) : State :=
  let s1 := s.putSlot r.slot { s.slots.get r.slot with state := .faulted cause, profile := none }
  ((s1.raise (.faulted r.slot)).finishSlotTicket r.slot .failed (some (.fault cause))).identIdle

/-- A read succeeds: the slot IDENTIFIED with the profile, ARRIVED raised, a RECOVER ticket SUCCESS, the controller
IDLE (R54, R85). -/
def State.readSucceeds (s : State) (r : ReadRecord) (p : Profile) : State :=
  let s1 := s.putSlot r.slot { s.slots.get r.slot with state := .identified, profile := some p }
  ((s1.raise (.arrived r.slot)).finishSlotTicket r.slot .success none).identIdle

/-- An attempt fails: the retry timer after attempts 1 and 2, IDENT_NO_ANSWER after attempt 3 (R82). -/
def State.attemptFailure (s : State) (r : ReadRecord) : State :=
  if r.attempt < 3 then s.putIdent (.retryWait r Config.retryMicros) else s.readFails r .identNoAnswer

/-! ### Commands (chapter 7) -/

/-- How a command ends: refused with a result code and no other effect (R133), or taken with its effect. -/
inductive Completion where
  | refuse (code : ResultCode)
  | finish (code : ResultCode) (results : Tbl 4 Word) (s : State)

/-- The completion of a command: the result is set, the engine is DONE and CMD_DONE is raised (R129). -/
def State.complete (s : State) (code : ResultCode) (results : Tbl 4 Word) : State :=
  (s.putEngine { s.engine with state := .finished code, results }).raise .cmdDone

/-- The state a completed command leaves. -/
def Completion.result (s : State) : Completion → State
  | .refuse code => s.complete code noWords
  | .finish code results s' => s'.complete code results

/-- The command in execution is `c`. -/
def State.isExecuting (s : State) (c : Command) : Bool :=
  s.engine.state == .executing && s.engine.takenCode == c.code

/-- The completion of `c`, decided from the taken operands against the records as they stand (R126, R129). When `c` is
not the command in execution the event cannot occur, and nothing happens (log 3). -/
def runCommand (c : Command) (body : Tbl 4 Word → State → Completion) (s : State) : State :=
  if s.isExecuting c then (body s.engine.takenOperands s).result s else s

/-- A command whose operands pass the common checks, or BAD_OPERAND (R132). -/
def checked {α : Type} (operands : Option α) (body : α → Completion) : Completion :=
  match operands with
  | none => .refuse .badOperand
  | some x => body x

/-- The last check and the start of a deferred command: the lowest FREE ticket record is allocated, or NO_TICKET
(R134, R141). `start` takes the new ticket id. -/
def deferred (s : State) (op : TicketOp) (start : Nat → State → State) : Completion :=
  match s.freeTicket with
  | none => .refuse .noTicket
  | some k =>
    let t := (s.tickets.get k).allocate op
    .finish .accepted (indexWords (t.id k) 8) (start (t.id k) (s.putTicket k t))

end Sys2Proof.Machine
end

