-- ==== Sys2Proof/Machine/HostPort.lean ====
section
/-! DEFINITION. Host requests: the Host Port (9.1), the Aperture Decoder (chapter 2), the control block (9.2), and with
them ACK and EOS (chapter 6) and the issue of commands (7.1). Every host request goes through `State.hostRequest`, which
decides by the address; a row of the table names what the request is for (log 10). -/

namespace Sys2Proof.Machine

/-- A request on the host bus (R28); `data` are the 32 data lanes of a WRITE. -/
structure HostRequest where
  tag : HostTag
  op : Op
  addr : Word
  size : Size
  data : Word
  deriving DecidableEq, Repr

/-! ### Address ranges (R28, R148, R152) -/

/-- The aperture base the strap selects (R152). -/
def State.apertureBase (s : State) : Nat := if s.apStrap then 0x80000000 else 0x40000000

/-- The control block base the straps select (R152). -/
def State.controlBase (s : State) : Nat := 0xF0000000 + s.cbStrap.toNat * 0x1000

/-- The two ranges the Host Port claims. -/
inductive Target where
  | aperture (offset : Nat)
  | controlBlock (offset : Nat)
  deriving DecidableEq, Repr

/-- Where an address lies: the aperture, the control block, or neither, and then it is not claimed (R28, R148). -/
def State.target (s : State) (addr : Word) : Option Target :=
  if s.apertureBase ≤ addr.toNat ∧ addr.toNat ≤ s.apertureBase + 0x3FFFFFFF then
    some (.aperture (addr.toNat - s.apertureBase))
  else if s.controlBase ≤ addr.toNat ∧ addr.toNat ≤ s.controlBase + 0xFF then
    some (.controlBlock (addr.toNat - s.controlBase))
  else none

/-! ### The Aperture Decoder (chapter 2) -/

/-- The op is among the rights (R32). -/
def Rights.allows : Rights → Op → Bool
  | .read, .read => true
  | .read, .write => false
  | .write, .read => false
  | .write, .write => true
  | .readWrite, _ => true

/-- The module address of an aperture offset (R4). -/
def Mapping.translate (m : Mapping) (offset : Nat) : Word :=
  BitVec.ofNat 32 (m.moduleBase * 4096 + offset - m.base * 4096)

/-- A WRITE through a MEM window is posted (R35). -/
def posted (k : Kind) (op : Op) : Bool := k == .mem && op == .write

/-- The Pending Queue entry of an accepted access (R34, R37). -/
def acceptedEntry (w : WinIx) (m : Mapping) (r : HostRequest) (offset : Nat) : Entry where
  window := w
  op := r.op
  addr := m.translate offset
  size := r.size
  data := match r.op with
    | .read => []
    | .write => laneBytes r.addr r.size r.data
  hostTag := if posted m.kind r.op then none else some r.tag

/-- Acceptance: the reference is taken, the entry appended at the tail, a posted write answered OK (R34, R35). -/
def State.accept (s : State) (w : WinIx) (m : Mapping) (refs : Nat) (r : HostRequest) (offset : Nat) : State :=
  let l := s.links.get m.slot
  let s1 := (s.putWindow w (.opened m (refs + 1))).putLink m.slot
    { l with queue := l.queue ++ [acceptedEntry w m r offset] }
  if posted m.kind r.op then s1.answer r.tag .ok none else s1

/-- The Aperture Decoder's checks, in order (R29). -/
def State.decodeAccess (s : State) (r : HostRequest) (offset : Nat) : State :=
  if r.addr.toNat % sizeBytes r.size ≠ 0 then s.answer r.tag .misaligned none
  else
    match s.lookup (offset / 4096) with
    | none => s.answer r.tag .noWindow none
    | some w =>
      match s.windows.get w with
      | .opened m refs =>
        if m.rights.allows r.op then
          if (s.links.get m.slot).queue.length < Config.queueCapacity then s.accept w m refs r offset
          else s.answer r.tag .retry none
        else s.answer r.tag .denied none
      | _ => s.answer r.tag .windowClosed none

/-! ### ACK and EOS (R115, R117, R118) -/

/-- ACK on a line: the selected source's cause set is emptied and its priority added to the in-service set (R115). -/
def State.takeAck (s : State) (l : LineIx) : State :=
  match s.selected l with
  | none => s
  | some i =>
    let r := s.sources.get i
    (s.putSource i { r with causes := 0 }).putLine l (serviceAdd (s.lines.get l) r.priority)

/-- What the ACK word of a line returns (R115, R156). -/
def State.ackValue (s : State) (l : LineIx) : Word :=
  ackWord ((s.selected l).map fun i => (i, (s.sources.get i).causes))

/-- EOS on a line: the greatest priority leaves the in-service set, or SPURIOUS_EOS is raised on an empty one (R117,
R118). -/
def State.takeEos (s : State) (l : LineIx) : State :=
  match inServiceMax (s.lines.get l) with
  | none => s.raise .spuriousEos
  | some p => s.putLine l (serviceRemove (s.lines.get l) p)

/-! ### The command code word (R127, R128) -/

/-- A write of the command code word: an issue in IDLE and DONE, an overrun in EXECUTING (R127, R128). -/
def State.writeCode (s : State) (code : Word) : State :=
  match s.engine.state with
  | .executing => (s.putEngine { s.engine with overrun := true }).raise .cmdOverrun
  | _ =>
    s.putEngine
      { s.engine with
        state := .executing
        takenCode := code
        takenOperands := s.engine.operands
        results := noWords }

/-! ### The control block (R151) -/

/-- The words of the control block (R151). -/
inductive BlockWord where
  | identification
  | operand (k : Fin 4)
  | commandCode
  | commandStatus
  | result (k : Fin 4)
  | ack (l : LineIx)
  | eos (l : LineIx)
  | lineSummary
  | slotSummary
  | powerAccount
  deriving DecidableEq, Repr

/-- The word at an offset; an offset not listed holds no word (R151). -/
def blockWord : Nat → Option BlockWord
  | 0x00 => some .identification
  | 0x10 => some (.operand 0)
  | 0x14 => some (.operand 1)
  | 0x18 => some (.operand 2)
  | 0x1C => some (.operand 3)
  | 0x20 => some .commandCode
  | 0x24 => some .commandStatus
  | 0x30 => some (.result 0)
  | 0x34 => some (.result 1)
  | 0x38 => some (.result 2)
  | 0x3C => some (.result 3)
  | 0x40 => some (.ack 0)
  | 0x44 => some (.ack 1)
  | 0x48 => some (.ack 2)
  | 0x4C => some (.ack 3)
  | 0x50 => some (.eos 0)
  | 0x54 => some (.eos 1)
  | 0x58 => some (.eos 2)
  | 0x5C => some (.eos 3)
  | 0x60 => some .lineSummary
  | 0x70 => some .slotSummary
  | 0x74 => some .powerAccount
  | _ => none

/-- A read of a word: its value and the state it leaves; none where the word allows no read (R151). -/
def State.readWord (s : State) : BlockWord → Option (Word × State)
  | .identification => some (s.identificationWord, s)
  | .operand k => some (s.engine.operands.get k, s)
  | .commandCode => none
  | .commandStatus => some (s.engine.statusWord, s.putEngine { s.engine with overrun := false })
  | .result k => some (s.engine.results.get k, s)
  | .ack l => some (s.ackValue l, s.takeAck l)
  | .eos l => some (eosWord (s.lines.get l), s)
  | .lineSummary => some (s.lineSummaryWord, s)
  | .slotSummary => some (s.slotSummaryWord, s)
  | .powerAccount => some (s.powerAccountWord, s)

/-- A write of a word: the state it leaves; none where the word allows no write (R151). -/
def State.writeWord (s : State) (data : Word) : BlockWord → Option State
  | .identification => none
  | .operand k => some (s.putEngine { s.engine with operands := s.engine.operands.put k data })
  | .commandCode => some (s.writeCode data)
  | .commandStatus => none
  | .result _ => none
  | .ack _ => none
  | .eos l => some (s.takeEos l)
  | .lineSummary => none
  | .slotSummary => none
  | .powerAccount => none

/-- The word a control block access reaches when its size is 4 at an aligned offset that holds a word (R151). -/
def accessedWord (size : Size) (offset : Nat) : Option BlockWord :=
  if size = .four ∧ offset % 4 = 0 then blockWord offset else none

/-- A control block access, decided and answered in the step of its arrival (R151). -/
def State.controlAccess (s : State) (r : HostRequest) (offset : Nat) : State :=
  match accessedWord r.size offset with
  | none => s.answer r.tag .denied none
  | some b =>
    match r.op with
    | .read =>
      match s.readWord b with
      | none => s.answer r.tag .denied none
      | some (v, s') => s'.answer r.tag .ok (some v)
    | .write =>
      match s.writeWord r.data b with
      | none => s.answer r.tag .denied none
      | some s' => s'.answer r.tag .ok none

/-! ### The Host Port (R148, R149, R150) -/

/-- A host request: not claimed while HRST_N is asserted (R153) or outside both ranges; discarded with HOST_TAG_REUSE
when its tag is IN_FLIGHT (R150); else entered in the Host Request Table and handled in the same step (R148). -/
def State.hostRequest (s : State) (r : HostRequest) : State :=
  if s.hostReset then s
  else
    match s.target r.addr with
    | none => s
    | some t =>
      if s.hostTable.get r.tag then s.raise .hostTagReuse
      else
        match t with
        | .aperture offset => (s.putHostTag r.tag true).decodeAccess r offset
        | .controlBlock offset => (s.putHostTag r.tag true).controlAccess r offset

/-- The address of a control block word, for the rows that name their word. -/
def State.blockAddress (s : State) (offset : Nat) : Word := BitVec.ofNat 32 (s.controlBase + offset)

/-- A 4-byte read of the control block word at an offset. -/
def State.readRequest (s : State) (tag : HostTag) (offset : Nat) : HostRequest :=
  { tag, op := .read, addr := s.blockAddress offset, size := .four, data := 0 }

/-- A 4-byte write of the control block word at an offset. -/
def State.writeRequest (s : State) (tag : HostTag) (offset : Nat) (data : Word) : HostRequest :=
  { tag, op := .write, addr := s.blockAddress offset, size := .four, data }

/-- The offset of the ACK word of a line (R115). -/
def ackOffset (l : LineIx) : Nat := 0x40 + 4 * l.val

/-- The offset of the EOS word of a line (R117). -/
def eosOffset (l : LineIx) : Nat := 0x50 + 4 * l.val

/-- The offset of the command code word (R151). -/
def codeOffset : Nat := 0x20

/-! ### The meanings -/

/-- APERTURE_ACCESS (R29). -/
def execApertureAccess (tag : HostTag) (op : Op) (addr : Word) (size : Size) (data : Word) (s : State) :
    Host.Outcome State Fault Refusal :=
  taken (fun s => s.hostRequest { tag, op, addr, size, data }) s

/-- CONTROL_BLOCK_WRITE (R151). -/
def execControlBlockWrite (tag : HostTag) (addr : Word) (size : Size) (data : Word) (s : State) :
    Host.Outcome State Fault Refusal :=
  taken (fun s => s.hostRequest { tag, op := .write, addr, size, data }) s

/-- COMMAND_STATUS_READ (R130), and the reads of the other words of the control block (R119, R151). -/
def execCommandStatusRead (tag : HostTag) (addr : Word) (size : Size) (s : State) :
    Host.Outcome State Fault Refusal :=
  taken (fun s => s.hostRequest { tag, op := .read, addr, size, data := 0 }) s

/-- ACK (R115). -/
def execAck (tag : HostTag) (line : LineIx) (s : State) : Host.Outcome State Fault Refusal :=
  taken (fun s => s.hostRequest (s.readRequest tag (ackOffset line))) s

/-- EOS (R117). -/
def execEos (tag : HostTag) (line : LineIx) (value : Word) (s : State) : Host.Outcome State Fault Refusal :=
  taken (fun s => s.hostRequest (s.writeRequest tag (eosOffset line) value)) s

/-- CMD_OVERRUN (R128). -/
def execCmdOverrun (tag : HostTag) (code : Word) (s : State) : Host.Outcome State Fault Refusal :=
  taken (fun s => s.hostRequest (s.writeRequest tag codeOffset code)) s

/-- COMMAND_ISSUE (R127). -/
def execCommandIssue (tag : HostTag) (code : Word) (s : State) : Host.Outcome State Fault Refusal :=
  taken (fun s => s.hostRequest (s.writeRequest tag codeOffset code)) s

end Sys2Proof.Machine
end

