-- ==== Sys2Proof/Machine/Identification.lean ====
section
/-! DEFINITION. The identification link (chapter 4) and the profile image (R157): BUS_CLEAR, HEADER_TRANSACTION,
BODY_TRANSACTION, ATTEMPT_FAILS, RETRY_TIMER_EXPIRY, ABANDONED_BYTE_END. -/

namespace Sys2Proof.Machine

/-! ### The profile image (R83, R87, R157) -/

/-- Image byte at an offset. -/
def imageByte (image : List Byte) (k : Nat) : Byte := image.getD k 0

/-- A little-endian field of the image (R157). -/
def imageField (image : List Byte) (k len : Nat) : Nat := leNat ((image.drop k).take len)

/-- The length an item count asks for (R83 check 3). -/
def imageLengthOf (count : Nat) : Nat := 17 + 8 * count

/-- Checks 1 to 3 of the header (R83). -/
def headerPasses (b0 b1 b2 b3 : Byte) : Bool :=
  b0 == 1 && decide (b1.toNat ≤ 6) && leNat [b2, b3] == imageLengthOf b1.toNat

/-- Check 4: the 8-bit sum of all image bytes is 0 (R83). -/
def checksumPasses (image : List Byte) : Bool := image.foldl (· + ·) 0 == 0

/-- Offset of request `j` in the image (R157). -/
def requestOffset (j : Nat) : Nat := 16 + 8 * j

/-- Request `j` of the image, without its checks (R157). -/
def imageRequest (image : List Byte) (j : Nat) : Request where
  kind := if imageByte image (requestOffset j) &&& 0x0F = 0 then .mem else .reg
  writable := (imageByte image (requestOffset j)).getLsbD 4
  alignment := (imageByte image (requestOffset j + 1)).toNat
  pages := imageField image (requestOffset j + 2) 2 + 1
  base := imageField image (requestOffset j + 4) 4

/-- Checks 5 to 9 of request `j` (R83). -/
def requestPasses (image : List Byte) (j : Nat) : Bool :=
  (kindOf (imageByte image (requestOffset j) &&& 0x0F).toNat).isSome
    && imageByte image (requestOffset j) &&& 0xE0 == 0
    && decide ((imageRequest image j).alignment ≤ 16)
    && decide ((imageRequest image j).base < Config.modulePages)
    && decide ((imageRequest image j).base + (imageRequest image j).pages ≤ Config.modulePages)

/-- The item count of an image. -/
def imageCount (image : List Byte) : Nat := (imageByte image 1).toNat

/-- Checks 4 to 9 (R83). -/
def imagePasses (image : List Byte) : Bool :=
  checksumPasses image && (List.range (imageCount image)).all (requestPasses image)

/-- The profile of an image (R87). -/
def imageProfile (image : List Byte) : Profile where
  vendorCode := BitVec.ofNat 16 (imageField image 4 2)
  moduleKind := BitVec.ofNat 16 (imageField image 6 2)
  revision := imageByte image 8
  powerUnits := imageByte image 9
  attentionMask := imageByte image 10
  hardwareBuild := imageByte image 11
  serial := BitVec.ofNat 32 (imageField image 12 4)
  requests := (List.range (imageCount image)).map (imageRequest image)

/-! ### The bytes of a transaction (R80, R81) -/

/-- One byte of a transaction ends while the image is to grow to `size` bytes: the read in progress after it, and what it
shows on the link. An acknowledged byte of the part's moves to the next of the opening; an image byte is added to the
bytes received, and the part acknowledges it unless it is the transaction's last. A byte that the transaction no longer
has changes nothing (log 3). -/
def ReadRecord.transfer (r : ReadRecord) (size : Nat) : Transfer → ReadRecord × List BusItem
  | .acknowledged =>
    match r.opening with
    | [] => (r, [])
    | items :: _ => ({ r with sent := r.sent + 1 }, items)
  | .received b =>
    if r.bytes.length < size then
      ({ r with sent := 3, bytes := r.bytes ++ [b] },
        r.opening.flatten ++ [.received b (decide (r.bytes.length + 1 < size))])
    else (r, [])

/-- A run of bytes of a transaction, one after another. -/
def ReadRecord.transfers (r : ReadRecord) (size : Nat) : List Transfer → ReadRecord × List BusItem
  | [] => (r, [])
  | x :: run =>
    let first := r.transfer size x
    let rest := first.1.transfers size run
    (rest.1, first.2 ++ rest.2)

/-! ### The events -/

/-- The end of the bus clear (R79). -/
def State.busCleared (s : State) (pulses : Option (Fin 10)) : State :=
  match s.ident with
  | .reading r =>
    if r.phase = .busClear then
      match pulses with
      | some k =>
        (s.onIdentLink (List.replicate k.val .clockPulse ++ [.stop])).putIdent
          (.reading { r with phase := .header })
      | none => (s.onIdentLink (List.replicate 9 .clockPulse ++ [.stop])).attemptFailure r
    else s
  | _ => s

/-- BUS_CLEAR (R79). -/
def execBusClear (pulses : Option (Fin 10)) (s : State) : Host.Outcome State Fault Refusal :=
  taken (fun s => s.busCleared pulses) s

/-- Bytes of the header transaction: with image byte 3 it ends with a stop condition, and the header is checked (R80,
R83). -/
def State.headerRead (s : State) (run : List Transfer) : State :=
  match s.ident with
  | .reading r =>
    if r.phase = .header then
      let (r', items) := r.transfers 4 run
      match r'.bytes with
      | [b0, b1, b2, b3] =>
        let s1 := s.onIdentLink (items ++ [.stop])
        if headerPasses b0 b1 b2 b3 then
          s1.putIdent (.reading { r' with phase := .body, sent := 0, imageLength := some (leNat [b2, b3]) })
        else s1.readFails r' .identBadImage
      | _ => (s.onIdentLink items).putIdent (.reading r')
    else s
  | _ => s

/-- HEADER_TRANSACTION (R80). -/
def execHeaderTransaction (next : Transfer) (second third fourth : Option Transfer) (s : State) :
    Host.Outcome State Fault Refusal :=
  taken (fun s => s.headerRead (next :: [second, third, fourth].reduceOption)) s

/-- Bytes of the body transaction: with the last image byte it ends with a stop condition, and the image is checked (R81,
R83, R84, R85). -/
def State.bodyRead (s : State) (run : List Transfer) : State :=
  match s.ident with
  | .reading r =>
    match r.phase, r.imageLength with
    | .body, some length =>
      let (r', items) := r.transfers length run
      if r'.bytes.length < length then (s.onIdentLink items).putIdent (.reading r')
      else
        let s1 := s.onIdentLink (items ++ [.stop])
        if imagePasses r'.bytes then s1.readSucceeds r' (imageProfile r'.bytes) else s1.readFails r' .identBadImage
    | _, _ => s
  | _ => s

/-- BODY_TRANSACTION (R81). -/
def execBodyTransaction (run : List Transfer) (s : State) : Host.Outcome State Fault Refusal :=
  taken (fun s => s.bodyRead run) s

/-- The next byte of the part's is not acknowledged: it has passed on the link, then a stop condition, and the attempt
fails (R82). Once the memory sends, the part sends no byte, and nothing happens (log 3). In the bus clear the event is
its failure after nine pulses (log 14). -/
def State.missingAcknowledge (s : State) : State :=
  match s.ident with
  | .reading r =>
    match r.phase, r.opening with
    | .busClear, _ => (s.onIdentLink (r.beforeByte ++ [.stop])).attemptFailure r
    | _, items :: _ => (s.onIdentLink (items ++ [.stop])).attemptFailure r
    | _, [] => s
  | _ => s

/-- ATTEMPT_FAILS (R82). -/
def execAttemptFails (s : State) : Host.Outcome State Fault Refusal := taken State.missingAcknowledge s

/-- The next attempt begins (R79, R82). -/
def State.retry (s : State) : State :=
  match s.ident with
  | .retryWait r _ => s.putIdent (.reading (ReadRecord.start r.slot (r.attempt + 1) s.config.clock))
  | _ => s

/-- RETRY_TIMER_EXPIRY (R82). -/
def execRetryTimerExpiry (s : State) : Host.Outcome State Fault Refusal := taken State.retry s

/-- The abandoned byte has ended: it is completed, then a stop condition, and the controller is IDLE (R86). -/
def State.abandonedEnd (s : State) : State :=
  match s.ident with
  | .abandoning _ => (s.onIdentLink [.abandoned, .stop]).identIdle
  | _ => s

/-- ABANDONED_BYTE_END (R86). -/
def execAbandonedByteEnd (s : State) : Host.Outcome State Fault Refusal := taken State.abandonedEnd s

end Sys2Proof.Machine
end

