-- ==== Sys2Proof/Machine/LinkEvents.lean ====
section
/-! DEFINITION. The slot link (chapter 5): training, sending, completions and their timers, and the packets a module
sends on its own account. -/

namespace Sys2Proof.Machine

/-- The link takes module packets of normal operation: UP or QUIESCING (R93). -/
def LinkState.isOpen : LinkState → Bool
  | .up | .quiescing => true
  | _ => false

/-! ### Training (R94, R95) -/

/-- The training timer expires in TRAINING (R94). -/
def State.trainingTimesOut (s : State) (n : SlotIx) : State :=
  if (s.links.get n).state = .training ∧ (s.links.get n).trainingTimer.isSome then s.faultSlot n .linkTimeout else s

/-- TRAINING_TIMER_EXPIRY (R94). -/
def execTrainingTimerExpiry (n : SlotIx) (s : State) : Host.Outcome State Fault Refusal :=
  taken (fun s => s.trainingTimesOut n) s

/-- A READY with a good count: the link UP, the slot ACTIVE with its usable tags, ADMITTED raised, the ADMIT ticket
SUCCESS (R60). -/
def State.admitted (s : State) (n : SlotIx) (count : Nat) : State :=
  let s1 := s.putLink n { s.links.get n with state := .up, trainingTimer := none }
  let s2 := s1.putSlot n { s1.slots.get n with state := .active, usableTags := some count }
  (s2.raise (.admitted n)).finishSlotTicket n .success none

/-- A READY packet: taken in TRAINING alone (R93, R95). -/
def State.takeReady (s : State) (n : SlotIx) (count : Nat) : State :=
  if (s.links.get n).state = .training then
    if 1 ≤ count ∧ count ≤ 8 then s.admitted n count else s.faultSlot n .linkProtocol
  else s

/-- READY (R95). -/
def execReady (n : SlotIx) (count : BitVec 4) (s : State) : Host.Outcome State Fault Refusal :=
  taken (fun s => s.takeReady n count.toNat) s

/-! ### Sending (R98) -/

/-- The link tag an entry takes when it is sent (R98). -/
def Entry.tagRecord (e : Entry) (config : PartConfig) : TagRecord where
  window := e.window
  hostTag := e.hostTag
  orphaned := false
  op := e.op
  addr := e.addr
  size := e.size
  timer := Config.completionMicros config.completion

/-- The packet that sends an entry under a tag (R91, R98). -/
def Entry.packet (e : Entry) (k : TagIx) : Packet :=
  match e.op with
  | .read => .read k e.addr e.size
  | .write => .write k e.addr e.size e.data

/-- The tag the head entry may be sent under: the lowest FREE one, while the number of tags IN_FLIGHT or STALE is below
the usable tag count and the link is UP (R97, R98). -/
def State.sendTag (s : State) (n : SlotIx) : Option TagIx :=
  match (s.slots.get n).usableTags with
  | none => none
  | some usable =>
    if (s.links.get n).state = .up ∧ (s.links.get n).tagsInUse < usable then (s.links.get n).freeTag else none

/-- The head entry of the Pending Queue is sent (R98). -/
def State.sendHead (s : State) (n : SlotIx) : State :=
  match (s.links.get n).queue, s.sendTag n with
  | e :: rest, some k =>
    (s.putLink n
      { s.links.get n with
        queue := rest
        tags := (s.links.get n).tags.put k (.inFlight (e.tagRecord s.config)) }).send n (e.packet k)
  | _, _ => s

/-- SEND_REQUEST (R98). -/
def execSendRequest (n : SlotIx) (s : State) : Host.Outcome State Fault Refusal :=
  taken (fun s => s.sendHead n) s

/-! ### Completions (R99, R100, R101) -/

/-- The completion agrees with the request (R99); an undefined status never does (R101). -/
def TagRecord.agrees (r : TagRecord) (status : CplStatus) (data : List Byte) : Bool :=
  match status with
  | .ok =>
    match r.op with
    | .read => data.length == sizeBytes r.size
    | .write => data.isEmpty
  | .error => true
  | .unsupported => true
  | .undefined => false

/-- The response to a completed request whose tag is owed an answer (R99). -/
def TagRecord.response (r : TagRecord) (status : CplStatus) (data : List Byte) : Response :=
  match status with
  | .ok =>
    match r.op with
    | .read => { code := .ok, data := some (laneWord r.addr data) }
    | .write => { code := .ok, data := none }
  | _ => { code := .moduleError, data := none }

/-- A completion that agrees is answered, or recorded for a posted write that failed; nothing is answered for an
orphaned tag (R99, R103). -/
def State.settleRequest (s : State) (n : SlotIx) (r : TagRecord) (status : CplStatus) (data : List Byte) : State :=
  match r.hostTag with
  | some t =>
    if r.orphaned then s else s.answer t (r.response status data).code (r.response status data).data
  | none => if status = .ok then s else s.recordPosted n r.window r.addr .moduleError

/-- A completion that agrees finishes the request: the tag FREE, the reference released, the answer, and the quiesce
test (R68, R99). -/
def State.finishRequest (s : State) (n : SlotIx) (k : TagIx) (r : TagRecord) (status : CplStatus)
    (data : List Byte) : State :=
  let s1 := (s.putLink n ((s.links.get n).putTag k .free)).releaseRef r.window
  (s1.settleRequest n r status data).testQuiesce n

/-- A COMPLETION packet (R93, R99, R100, R101). -/
def State.takeCompletion (s : State) (n : SlotIx) (k : TagIx) (status : CplStatus) (data : List Byte) : State :=
  if (s.links.get n).state.isOpen then
    match (s.links.get n).tags.get k with
    | .free => s.faultSlot n .linkProtocol
    | .stale _ => s.putLink n ((s.links.get n).putTag k .free)
    | .inFlight r =>
      if r.agrees status data then s.finishRequest n k r status data else s.faultSlot n .linkProtocol
  else s

/-- COMPLETION (R99). -/
def execCompletion (n : SlotIx) (k : TagIx) (status : CplStatus) (data : List Byte) (s : State) :
    Host.Outcome State Fault Refusal :=
  taken (fun s => s.takeCompletion n k status data) s

/-- A request that timed out is answered TIMEOUT, or recorded when it was posted (R100). -/
def State.settleTimeout (s : State) (n : SlotIx) (r : TagRecord) : State :=
  match r.hostTag with
  | some t => if r.orphaned then s else s.answer t .timeout none
  | none => s.recordPosted n r.window r.addr .timeout

/-- The tag of a request that timed out: STALE, its quarantine four times the completion timeout it was sent with
(R100). -/
def TagRecord.quarantined (r : TagRecord) : LinkTag := .stale { r with timer := 4 * r.timer }

/-- The completion timer of an IN_FLIGHT tag expires (R100). -/
def State.requestTimesOut (s : State) (n : SlotIx) (k : TagIx) : State :=
  match (s.links.get n).tags.get k with
  | .inFlight r =>
    let s1 := (s.putLink n ((s.links.get n).putTag k r.quarantined)).releaseRef r.window
    (s1.settleTimeout n r).testQuiesce n
  | _ => s

/-- COMPLETION_TIMER_EXPIRY (R100). -/
def execCompletionTimerExpiry (n : SlotIx) (k : TagIx) (s : State) : Host.Outcome State Fault Refusal :=
  taken (fun s => s.requestTimesOut n k) s

/-- The quarantine timer of a STALE tag expires (R100). -/
def State.quarantineEnds (s : State) (n : SlotIx) (k : TagIx) : State :=
  match (s.links.get n).tags.get k with
  | .stale _ => s.putLink n ((s.links.get n).putTag k .free)
  | _ => s

/-- QUARANTINE_TIMER_EXPIRY (R100). -/
def execQuarantineTimerExpiry (n : SlotIx) (k : TagIx) (s : State) : Host.Outcome State Fault Refusal :=
  taken (fun s => s.quarantineEnds n k) s

/-! ### Packets of the module's own account (R104 to R106) -/

/-- The attention cause mask of the slot's held profile (R88). -/
def Slot.attentionMask (r : Slot) : Byte := r.profile.elim 0 Profile.attentionMask

/-- An ATTENTION packet: its causes within the mask are added to MODULE(n) (R88, R104). -/
def State.takeAttention (s : State) (n : SlotIx) (causes : Byte) : State :=
  if (s.links.get n).state.isOpen then
    s.putSource (moduleSource n)
      ((s.sources.get (moduleSource n)).add (causes &&& (s.slots.get n).attentionMask))
  else s

/-- ATTENTION (R104). -/
def execAttention (n : SlotIx) (causes : Byte) (s : State) : Host.Outcome State Fault Refusal :=
  taken (fun s => s.takeAttention n causes) s

/-- An EJECT_REQUEST packet: taken while the link is UP and the slot ACTIVE (R105). -/
def State.takeEjectRequest (s : State) (n : SlotIx) : State :=
  if (s.links.get n).state = .up ∧ (s.slots.get n).state = .active then s.raise (.ejectRequested n) else s

/-- EJECT_REQUEST (R105). -/
def execEjectRequest (n : SlotIx) (s : State) : Host.Outcome State Fault Refusal :=
  taken (fun s => s.takeEjectRequest n) s

/-- A QUIESCED packet: taken in QUIESCING (R106). -/
def State.takeQuiesced (s : State) (n : SlotIx) : State :=
  if (s.links.get n).state = .quiescing then s.endEjection n .success else s

/-- QUIESCED (R106). -/
def execQuiesced (n : SlotIx) (s : State) : Host.Outcome State Fault Refusal :=
  taken (fun s => s.takeQuiesced n) s

/-- A packet that passes its check but is of none of the five kinds (R93, R101). -/
def State.takeUnknown (s : State) (n : SlotIx) : State :=
  if (s.links.get n).state.isOpen then s.faultSlot n .linkProtocol else s

/-- UNKNOWN_PACKET_KIND (R101). -/
def execUnknownPacketKind (n : SlotIx) (s : State) : Host.Outcome State Fault Refusal :=
  taken (fun s => s.takeUnknown n) s

/-- PACKET_CHECK_FAILURE: the packet is discarded, and the engine takes no other action (R92). -/
def execPacketCheckFailure (_n : SlotIx) (s : State) : Host.Outcome State Fault Refusal := taken (fun s => s) s

/-! ### Link loss (R107) -/

/-- The receiver loses lock (R107). -/
def State.losesLock (s : State) (n : SlotIx) : State :=
  match (s.links.get n).state, (s.slots.get n).state with
  | .up, .active => s.faultSlot n .linkLost
  | .up, .ejecting => s.abortEjection n
  | .quiescing, .ejecting => s.abortEjection n
  | _, _ => s

/-- LINK_LOSS (R107). -/
def execLinkLoss (n : SlotIx) (s : State) : Host.Outcome State Fault Refusal :=
  taken (fun s => s.losesLock n) s

end Sys2Proof.Machine
end

