-- ==== Sys2Proof/Machine/PartCommands.lean ====
section
/-! DEFINITION. The commands of the router, the tickets, the configuration and the engine itself: SRC_ROUTE, SRC_READ
(chapter 6), TICKET_READ, TICKET_COLLECT (chapter 8), PART_CONFIG, PART_CONFIG_READ, NOP and the completion of an
undefined code (chapter 7). -/

namespace Sys2Proof.Machine

/-! ### SRC_ROUTE and SRC_READ (R120, R122) -/

/-- SRC_ROUTE after the common checks: enable, line and priority, all three together. -/
def routeSource (s : State) (o : RouteOperands) : Completion :=
  .finish .ok noWords
    (s.putSource o.source
      { s.sources.get o.source with enable := o.enable, line := o.line, priority := o.priority })

/-- SRC_ROUTE. -/
def execSrcRoute (s : State) : Host.Outcome State Fault Refusal :=
  taken (runCommand .srcRoute fun o s => checked (routeOperands o) (routeSource s)) s

/-- SRC_READ after the common checks: the record as it stands before the CMD_DONE of this completion (R122). -/
def readSource (s : State) (i : Fin 18) : Completion := .finish .ok (srcReadWords (s.sources.get i)) s

/-- SRC_READ. -/
def execSrcRead (s : State) : Host.Outcome State Fault Refusal :=
  taken (runCommand .srcRead fun o s => checked (sourceOperand o) (readSource s)) s

/-! ### TICKET_READ and TICKET_COLLECT (R144, R145) -/

/-- The record an id names: not FREE, with that current id (R140). -/
def State.namedTicket (s : State) (id : Nat) : Option (Fin 8) :=
  let k := ticketIndex id
  if (s.tickets.get k).body ≠ .free ∧ (s.tickets.get k).id k = id then some k else none

/-- TICKET_READ after the common checks. -/
def readTicket (s : State) (id : Nat) : Completion :=
  match s.namedTicket id with
  | none => .refuse .noSuchTicket
  | some k =>
    match ticketReadWords (s.tickets.get k).body with
    | none => .refuse .noSuchTicket
    | some w => .finish .ok w s

/-- TICKET_READ. -/
def execTicketRead (s : State) : Host.Outcome State Fault Refusal :=
  taken (runCommand .ticketRead fun o s => checked (ticketOperand o) (readTicket s)) s

/-- TICKET_COLLECT after the common checks. -/
def collectTicket (s : State) (id : Nat) : Completion :=
  match s.namedTicket id with
  | none => .refuse .noSuchTicket
  | some k =>
    match (s.tickets.get k).body with
    | .finished _ _ _ => .finish .ok noWords (s.putTicket k { s.tickets.get k with body := .free })
    | _ => .refuse .ticketOpen

/-- TICKET_COLLECT. -/
def execTicketCollect (s : State) : Host.Outcome State Fault Refusal :=
  taken (runCommand .ticketCollect fun o s => checked (ticketOperand o) (collectTicket s)) s

/-! ### PART_CONFIG and PART_CONFIG_READ (R136, R137) -/

/-- PART_CONFIG after the common checks: all five fields, or BUDGET_IN_USE (R56, R136). -/
def configurePart (s : State) (c : PartConfig) : Completion :=
  if c.budget < s.committed then .refuse .budgetInUse else .finish .ok noWords { s with config := c }

/-- PART_CONFIG. -/
def execPartConfig (s : State) : Host.Outcome State Fault Refusal :=
  taken (runCommand .partConfig fun o s => checked (configOperands o) (configurePart s)) s

/-- PART_CONFIG_READ. -/
def execPartConfigRead (s : State) : Host.Outcome State Fault Refusal :=
  taken (runCommand .partConfigRead fun _ s => .finish .ok (configWords s.config) s) s

/-! ### NOP and BAD_COMMAND (R134, R132) -/

/-- NOP. -/
def execNop (s : State) : Host.Outcome State Fault Refusal :=
  taken (runCommand .nop fun _ s => .finish .ok noWords s) s

/-- The completion of an issued command whose code is none of the nineteen (R132 check 1). -/
def State.completeUndefined (s : State) : State :=
  if s.engine.state = .executing ∧ definedCode s.engine.takenCode = false then s.complete .badCommand noWords else s

/-- BAD_COMMAND. -/
def execBadCommand (s : State) : Host.Outcome State Fault Refusal := taken State.completeUndefined s

end Sys2Proof.Machine
end

