-- ==== Sys2Proof/Machine/SlotEvents.lean ====
section
/-! DEFINITION. Presence, removal and power events of a slot (chapter 3). -/

namespace Sys2Proof.Machine

/-! ### Presence (R51, R52) -/

/-- A slot found present begins SETTLING with the settle time of the configuration record (R51). -/
def Slot.settle (r : Slot) (config : PartConfig) : Slot :=
  { r with state := .settling, settleTimer := some (Config.settleMicros config.settle) }

/-- Presence asserts: EMPTY settles; in any other state a running removal filter is stopped (R51, R52). -/
def State.presenceRises (s : State) (n : SlotIx) : State :=
  match (s.slots.get n).state with
  | .empty => s.putSlot n ((s.slots.get n).settle s.config)
  | _ => s.putSlot n { s.slots.get n with removalFilter := none }

/-- PRESENCE_ASSERTED (R51, R52); while part reset is in force the level alone changes (R158). -/
def execPresenceAsserted (n : SlotIx) (s : State) : Host.Outcome State Fault Refusal :=
  taken (fun s => s.presenceRises n) (s.putPresence n true)

/-- Presence deasserts: nothing in EMPTY, back to EMPTY from SETTLING, else the removal filter starts (R51, R52). -/
def State.presenceFalls (s : State) (n : SlotIx) : State :=
  match (s.slots.get n).state with
  | .empty => s
  | .settling => s.putSlot n { s.slots.get n with state := .empty, settleTimer := none }
  | _ => s.putSlot n { s.slots.get n with removalFilter := some Config.removalMicros }

/-- PRESENCE_DEASSERTED (R51, R52). -/
def execPresenceDeasserted (n : SlotIx) (s : State) : Host.Outcome State Fault Refusal :=
  taken (fun s => s.presenceFalls n) (s.putPresence n false)

/-- The settle timer of a SETTLING slot expires: QUEUED, at the tail of the Identification Queue (R51, R75). -/
def State.settled (s : State) (n : SlotIx) : State :=
  if (s.slots.get n).state = .settling ∧ (s.slots.get n).settleTimer.isSome then
    (s.putSlot n { s.slots.get n with state := .queued, settleTimer := none }).enqueueIdent n
  else s

/-- SETTLE_TIMER_EXPIRY (R51). -/
def execSettleTimerExpiry (n : SlotIx) (s : State) : Host.Outcome State Fault Refusal :=
  taken (fun s => s.settled n) s

/-! ### Removal (R53) -/

/-- The removal teardown is applied in these states (R53). -/
def SlotState.linked : SlotState → Bool
  | .linking | .active | .ejecting => true
  | _ => false

/-- The Identification Controller's part of a removal: the slot out of the queue (R77), or its read abandoned, which shows
what has passed before the next byte and keeps the bytes received (R86). A bus clear transfers no byte, so it always
stands between bytes. -/
def State.removeIdent (s : State) (n : SlotIx) (was : SlotState) (place : LinkPlace) : State :=
  match was with
  | .queued => s.putIdentQueue (s.identQueue.filter (· != n))
  | .identifying =>
    match s.ident with
    | .reading r =>
      if r.slot = n then
        if place.withinByte ∧ r.phase ≠ .busClear then (s.onIdentLink r.beforeByte).putIdent (.abandoning r)
        else (s.onIdentLink (r.beforeByte.take place.passed.val ++ [.stop])).identIdle
      else s
    | .retryWait r _ => if r.slot = n then s.identIdle else s
    | _ => s
  | _ => s

/-- A module is taken as removed (R53): the windows withdrawn, the teardown, the slot record as of an EMPTY slot (power
off, units returned, timers stopped, profile, fault cause, usable tags and posted-failure record absent), MODULE(n)
emptied, REMOVED raised, the slot's OPEN ticket OVERTAKEN. -/
def State.removeSlot (s : State) (n : SlotIx) (place : LinkPlace) : State :=
  let was := (s.slots.get n).state
  let s1 := s.eachWindow (Window.remove n)
  let s2 := if was.linked then s1.teardown n .removal else s1
  let s3 := s2.putSlot n Slot.reset
  let s4 := s3.putSource (moduleSource n) { s3.sources.get (moduleSource n) with causes := 0 }
  let s5 := (s4.raise (.removed n)).finishSlotTicket n .overtaken none
  s5.removeIdent n was place

/-- The removal filter runs in every state but EMPTY and SETTLING (R52). -/
def SlotState.filtered : SlotState → Bool
  | .empty | .settling => false
  | _ => true

/-- The removal filter expires (R53). -/
def State.removalExpires (s : State) (n : SlotIx) (place : LinkPlace) : State :=
  if (s.slots.get n).removalFilter.isSome ∧ (s.slots.get n).state.filtered then s.removeSlot n place else s

/-- REMOVAL_FILTER_EXPIRY (R53). -/
def execRemovalFilterExpiry (n : SlotIx) (place : LinkPlace) (s : State) : Host.Outcome State Fault Refusal :=
  taken (fun s => s.removalExpires n place) s

/-! ### Power (R58) -/

/-- The first assertion of power good in POWERING stops the power timeout and starts the qualification (R58). -/
def State.powerGoodRises (s : State) (n : SlotIx) : State :=
  match (s.slots.get n).state, (s.slots.get n).powerTimer with
  | .powering, some (.waiting _) =>
    s.putSlot n { s.slots.get n with powerTimer := some (.qualifying Config.qualificationMicros) }
  | _, _ => s

/-- POWER_GOOD_ASSERTED (R58). -/
def execPowerGoodAsserted (n : SlotIx) (s : State) : Host.Outcome State Fault Refusal :=
  taken (fun s => s.powerGoodRises n) (s.putPowerGood n true)

/-- A deassertion of power good is a power-good loss in this slot: in POWERING once it has been seen, and in LINKING,
ACTIVE and EJECTING (R58, R59, R62, R66). -/
def Slot.losesPower (r : Slot) : Bool :=
  match r.state, r.powerTimer with
  | .powering, some (.qualifying _) => true
  | .powering, _ => false
  | .linking, _ => true
  | .active, _ => true
  | .ejecting, _ => true
  | _, _ => false

/-- A deassertion of power good (R58). -/
def State.powerGoodFalls (s : State) (n : SlotIx) : State :=
  if (s.slots.get n).losesPower then s.faultSlot n .powerLost else s

/-- POWER_GOOD_LOSS (R58). -/
def execPowerGoodLoss (n : SlotIx) (s : State) : Host.Outcome State Fault Refusal :=
  taken (fun s => s.powerGoodFalls n) (s.putPowerGood n false)

/-- Power good has stayed asserted for the qualification period: LINKING, and the engine begins training (R58, R59,
R94). -/
def State.qualified (s : State) (n : SlotIx) : State :=
  match (s.slots.get n).state, (s.slots.get n).powerTimer with
  | .powering, some (.qualifying _) =>
    ((s.putSlot n { s.slots.get n with state := .linking, powerTimer := none }).putLink n
      { s.links.get n with state := .training, trainingTimer := some Config.trainingMicros }).send n .training
  | _, _ => s

/-- QUALIFICATION_EXPIRY (R58). -/
def execQualificationExpiry (n : SlotIx) (s : State) : Host.Outcome State Fault Refusal :=
  taken (fun s => s.qualified n) s

/-- The power timeout expires before power good is seen (R58). -/
def State.powerTimesOut (s : State) (n : SlotIx) : State :=
  match (s.slots.get n).state, (s.slots.get n).powerTimer with
  | .powering, some (.waiting _) => s.faultSlot n .powerTimeout
  | _, _ => s

/-- POWER_TIMER_EXPIRY (R58). -/
def execPowerTimerExpiry (n : SlotIx) (s : State) : Host.Outcome State Fault Refusal :=
  taken (fun s => s.powerTimesOut n) s

/-! ### Quiesce timer (R69) -/

/-- The quiesce timer expires while the link is QUIESCING (R69, R106). -/
def State.quiesceTimesOut (s : State) (n : SlotIx) : State :=
  if (s.links.get n).state = .quiescing ∧ (s.slots.get n).quiesceTimer.isSome then s.endEjection n .forced else s

/-- QUIESCE_TIMER_EXPIRY (R69). -/
def execQuiesceTimerExpiry (n : SlotIx) (s : State) : Host.Outcome State Fault Refusal :=
  taken (fun s => s.quiesceTimesOut n) s

end Sys2Proof.Machine
end

