-- ==== Sys2Proof/Machine/Resets.lean ====
section
/-! DEFINITION. Part reset (R158) and host port reset (R153). -/

namespace Sys2Proof.Machine

/-! ### Part reset -/

/-- PART_RESET: every record takes its part reset value and is held there. The input levels and the sampled straps are
no records of the reset, and the queue of commands is not the part's (R152, R158). -/
def execPartReset (s : State) : Host.Outcome State Fault Refusal :=
  .next
    { State.reset with
      partReset := true
      hostReset := s.hostReset
      apStrap := s.apStrap
      cbStrap := s.cbStrap
      presence := s.presence
      powerGood := s.powerGood
      pending := s.pending }

/-- Part reset ends: the straps are sampled, and each slot found present begins SETTLING (R158). -/
def State.partResetEnds (s : State) (apsel : Bool) (cbsel : BitVec 2) : State :=
  { s with
    partReset := false
    apStrap := apsel
    cbStrap := cbsel
    slots := s.slots.each fun n r => if s.presence.get n then r.settle s.config else r }

/-- PART_RESET_END (R158). -/
def execPartResetEnd (apsel : Bool) (cbsel : BitVec 2) (s : State) : Host.Outcome State Fault Refusal :=
  .next (if s.partReset then s.quiet.partResetEnds apsel cbsel else s.quiet)

/-! ### Host port reset -/

/-- An IN_FLIGHT tag that carries a host tag becomes orphaned (R103). -/
def LinkTag.orphan : LinkTag → LinkTag
  | .inFlight r => .inFlight { r with orphaned := r.orphaned || r.hostTag.isSome }
  | t => t

/-- An engine's part of a host port reset: tags orphaned, the entries that carry a host tag removed, posted ones kept in
order (R42, R103). -/
def Link.hostReset (l : Link) : Link :=
  { l with
    queue := l.queue.filter fun e => e.hostTag.isNone
    tags := l.tags.each fun _ => LinkTag.orphan }

/-- The windows of the entries a host port reset removes, from head to tail (R42). -/
def Link.removedWindows (l : Link) : List WinIx := (l.queue.filter fun e => e.hostTag.isSome).map Entry.window

/-- A slot's part of a host port reset: one reference released for each entry removed (R42). -/
def State.hostResetLink (s : State) (n : SlotIx) : State :=
  (s.links.get n).removedWindows.foldl State.releaseRef (s.putLink n (s.links.get n).hostReset)

/-- The Command Engine at host port reset: IDLE, result code none, result words 0; operand words, overrun flag and
taken operands kept (R131). -/
def Engine.hostReset (e : Engine) : Engine := { e with state := .idle, results := noWords }

/-- The effect of a host port reset on the blocks (R153). The releases are followed by the quiesce test of R68, which
is taken in every step in which a reference is released (log 11). -/
def State.hostPortResets (s : State) : State :=
  let s1 := (List.finRange 8).foldl State.hostResetLink s
  let s2 := { s1 with hostTable := Tbl.fill false, lines := Tbl.fill 0, engine := s1.engine.hostReset }
  (List.finRange 8).foldl State.testQuiesce s2

/-- HOST_PORT_RESET (R153); during part reset it has no further effect than the line's level (R158). -/
def execHostPortReset (s : State) : Host.Outcome State Fault Refusal :=
  taken State.hostPortResets { s with hostReset := true }

/-- HOST_PORT_RESET_RELEASE: the Host Port claims requests again (R153). -/
def execHostPortResetRelease (s : State) : Host.Outcome State Fault Refusal :=
  taken (fun s => s) { s with hostReset := false }

end Sys2Proof.Machine
end

