-- ==== Sys2Proof/Machine/SlotCommands.lean ====
section
/-! DEFINITION. The slot commands: SLOT_READ, SLOT_ADMIT, SLOT_EJECT, SLOT_RECOVER, SLOT_CLEAR_POSTED (chapter 3) and
PROFILE_READ (chapter 4). -/

namespace Sys2Proof.Machine

/-! ### SLOT_READ (R72) -/

/-- The id of the OPEN ticket whose target is the slot (R72). -/
def State.slotTicketId (s : State) (n : SlotIx) : Option Nat :=
  (s.openTicket (TicketOp.onSlot n)).map fun k => (s.tickets.get k).id k

/-- SLOT_READ after the common checks. -/
def readSlot (s : State) (n : SlotIx) : Completion :=
  .finish .ok (slotReadWords (s.slots.get n) (s.slotTicketId n)) s

/-- SLOT_READ. -/
def execSlotRead (s : State) : Host.Outcome State Fault Refusal :=
  taken (runCommand .slotRead fun o s => checked (slotOperand o) (readSlot s)) s

/-! ### PROFILE_READ (R89) -/

/-- PROFILE_READ after the common checks. -/
def readProfile (s : State) (a : SlotIx × Fin 7) : Completion :=
  match (s.slots.get a.1).profile with
  | none => .refuse .noProfile
  | some p =>
    if h : a.2.val = 0 then .finish .ok (identityWords p) s
    else
      let q : Fin 6 := ⟨a.2.val - 1, by omega⟩
      match p.requests[q.val]? with
      | none => .refuse .badOperand
      | some r => .finish .ok (requestWords q r (s.granting a.1 q)) s

/-- PROFILE_READ. -/
def execProfileRead (s : State) : Host.Outcome State Fault Refusal :=
  taken (runCommand .profileRead fun o s => checked (profileOperands o) (readProfile s)) s

/-! ### SLOT_ADMIT (R57) -/

/-- The power units of a held profile; a slot without one draws nothing. -/
def Slot.powerUnits (r : Slot) : Byte := r.profile.elim 0 Profile.powerUnits

/-- The slot record after SLOT_ADMIT: units committed, main power on, POWERING with the power timer. Power good already
present counts as its first assertion in this step and starts the qualification (R57, R58). -/
def Slot.startAdmission (r : Slot) (config : PartConfig) (good : Bool) : Slot :=
  { r with
    state := .powering
    committedUnits := r.powerUnits
    mainPower := true
    powerTimer := some
      (if good then .qualifying Config.qualificationMicros else .waiting (Config.powerMicros config.power)) }

/-- SLOT_ADMIT after the common checks. -/
def admitSlot (s : State) (n : SlotIx) : Completion :=
  if (s.openTicket (TicketOp.onSlot n)).isSome then .refuse .targetBusy
  else if (s.slots.get n).state ≠ .identified then .refuse .slotState
  else if s.committed + (s.slots.get n).powerUnits.toNat > s.config.budget then .refuse .noPower
  else
    deferred s (.admission n) fun _ s' =>
      s'.putSlot n ((s'.slots.get n).startAdmission s'.config (s'.powerGood.get n))

/-- SLOT_ADMIT. -/
def execSlotAdmit (s : State) : Host.Outcome State Fault Refusal :=
  taken (runCommand .slotAdmit fun o s => checked (slotOperand o) (admitSlot s)) s

/-! ### SLOT_EJECT (R66) -/

/-- SLOT_EJECT after the common checks: EJECTING, the OPEN windows closed, and the quiesce test of the step of entry
(R21, R68). -/
def ejectSlot (s : State) (n : SlotIx) : Completion :=
  if (s.openTicket (TicketOp.onSlot n)).isSome then .refuse .targetBusy
  else if (s.slots.get n).state ≠ .active then .refuse .slotState
  else
    deferred s (.ejection n) fun _ s' =>
      ((s'.putSlot n { s'.slots.get n with state := .ejecting }).eachWindow (Window.leaveActive n)).testQuiesce n

/-- SLOT_EJECT. -/
def execSlotEject (s : State) : Host.Outcome State Fault Refusal :=
  taken (runCommand .slotEject fun o s => checked (slotOperand o) (ejectSlot s)) s

/-! ### SLOT_RECOVER (R71) -/

/-- SLOT_RECOVER is accepted in these states. -/
def SlotState.recoverable : SlotState → Bool
  | .identified => true
  | .faulted _ => true
  | _ => false

/-- SLOT_RECOVER after the common checks: STAGED windows freed, the profile discarded, the slot QUEUED (R24, R71). -/
def recoverSlot (s : State) (n : SlotIx) : Completion :=
  if (s.openTicket (TicketOp.onSlot n)).isSome then .refuse .targetBusy
  else if (s.slots.get n).state.recoverable then
    deferred s (.recovery n) fun _ s' =>
      ((s'.eachWindow (Window.recover n)).putSlot n
        { s'.slots.get n with state := .queued, profile := none }).enqueueIdent n
  else .refuse .slotState

/-- SLOT_RECOVER. -/
def execSlotRecover (s : State) : Host.Outcome State Fault Refusal :=
  taken (runCommand .slotRecover fun o s => checked (slotOperand o) (recoverSlot s)) s

/-! ### SLOT_CLEAR_POSTED (R73) -/

/-- SLOT_CLEAR_POSTED after the common checks. -/
def clearPosted (s : State) (n : SlotIx) : Completion :=
  .finish .ok noWords (s.putSlot n { s.slots.get n with posted := none })

/-- SLOT_CLEAR_POSTED. -/
def execSlotClearPosted (s : State) : Host.Outcome State Fault Refusal :=
  taken (runCommand .slotClearPosted fun o s => checked (slotOperand o) (clearPosted s)) s

end Sys2Proof.Machine
end

