-- ==== Sys2Proof/Machine/WindowCommands.lean ====
section
/-! DEFINITION. The window commands (chapter 1): WIN_STAGE, WIN_OPEN, WIN_CLOSE, WIN_RELEASE, WIN_READ, WIN_LOOKUP. -/

namespace Sys2Proof.Machine

/-! ### WIN_STAGE (R5 to R11) -/

/-- The rights asked for, restricted by a request: a request without WRITABLE allows READ alone, and WRITE against it
leaves no right (R7). -/
def effectiveRights (asked : Rights) (writable : Bool) : Option Rights :=
  if writable then some asked
  else
    match asked with
    | .read => some .read
    | .write => none
    | .readWrite => some .read

/-- The index WIN_STAGE uses: the named one when it is FREE, or the lowest FREE one for ANY (R5 step 8, R11). -/
def State.stageIndex (s : State) : Option WinIx → Except ResultCode WinIx
  | some w => if s.windows.get w = .free then .ok w else .error .windowState
  | none =>
    match s.freeWindow with
    | none => .error .noFreeWindow
    | some w => .ok w

/-- Steps 8 and 9 of the checks, and the staged record (R5, R10, R11). -/
def stageAt (window : Option WinIx) (m : Mapping) (s : State) : Completion :=
  match s.stageIndex window with
  | .error code => .refuse code
  | .ok w =>
    if s.overlaps m.base m.pages then .refuse .overlap
    else .finish .ok (indexWords w.val 6) (s.putWindow w (.staged m))

/-- A window that grants request `q`, which the profile holds as `r`: steps 4 to 7 (R7, R9). -/
def stageGranted (o : StageOperands) (q : Fin 6) (r : Request) (s : State) : Completion :=
  match effectiveRights o.rights r.writable with
  | none => .refuse .badOperand
  | some rights =>
    if o.base + r.pages > Config.aperturePages then .refuse .badOperand
    else if o.base % 2 ^ r.alignment ≠ 0 then .refuse .alignment
    else if (s.granting o.slot q).isSome then .refuse .requestTaken
    else
      stageAt o.window
        { slot := o.slot, request := some q, kind := r.kind, rights, base := o.base, pages := r.pages
          moduleBase := r.base } s

/-- A host-defined window: step 5 (R8). -/
def stageHostDefined (o : StageOperands) (s : State) : Completion :=
  if o.pages = 0 ∨ o.pages > Config.maxPages ∨ o.base + o.pages > Config.aperturePages
      ∨ o.moduleBase + o.pages > Config.modulePages then .refuse .badOperand
  else
    stageAt o.window
      { slot := o.slot, request := none, kind := o.kind, rights := o.rights, base := o.base, pages := o.pages
        moduleBase := o.moduleBase } s

/-- WIN_STAGE after the common checks: steps 2 and 3 (R5, R6). -/
def stageWindow (s : State) (o : StageOperands) : Completion :=
  match (s.slots.get o.slot).profile with
  | none => .refuse .noProfile
  | some p =>
    match o.request with
    | none => stageHostDefined o s
    | some q =>
      match p.requests[q.val]? with
      | none => .refuse .badOperand
      | some r => stageGranted o q r s

/-- WIN_STAGE. -/
def execWinStage (s : State) : Host.Outcome State Fault Refusal :=
  taken (runCommand .winStage fun o s => checked (stageOperands o) (stageWindow s)) s

/-! ### WIN_OPEN (R12) -/

/-- WIN_OPEN after the common checks: the window's state, then the slot's. -/
def openWindow (s : State) (w : WinIx) : Completion :=
  match s.windows.get w with
  | .staged m =>
    if (s.slots.get m.slot).state = .active then .finish .ok noWords (s.putWindow w (.opened m 0))
    else .refuse .slotState
  | _ => .refuse .windowState

/-- WIN_OPEN. -/
def execWinOpen (s : State) : Host.Outcome State Fault Refusal :=
  taken (runCommand .winOpen fun o s => checked (windowOperand o) (openWindow s)) s

/-! ### WIN_CLOSE (R14) -/

/-- The starting part of WIN_CLOSE: CLOSING with TO_STAGED and the new close ticket, drained in the same step when the
references are 0 (R14, R20). -/
def State.startClose (w : WinIx) (m : Mapping) (refs id : Nat) (s : State) : State :=
  if refs = 0 then (s.putWindow w (.closing m 0 .toStaged (some id))).drain w m .toStaged (some id)
  else s.putWindow w (.closing m refs .toStaged (some id))

/-- WIN_CLOSE after the common checks. -/
def closeWindow (s : State) (w : WinIx) : Completion :=
  if (s.openTicket (TicketOp.onWindow w)).isSome then .refuse .targetBusy
  else
    match s.windows.get w with
    | .opened m refs => deferred s (.close w) fun id s' => s'.startClose w m refs id
    | _ => .refuse .windowState

/-- WIN_CLOSE. -/
def execWinClose (s : State) : Host.Outcome State Fault Refusal :=
  taken (runCommand .winClose fun o s => checked (windowOperand o) (closeWindow s)) s

/-! ### WIN_RELEASE (R16, R17) -/

/-- WIN_RELEASE after the common checks. -/
def releaseWindow (s : State) (w : WinIx) : Completion :=
  match s.windows.get w with
  | .free => .refuse .windowState
  | .staged _ => .finish .ok noWords (s.putWindow w .free)
  | .opened _ _ => .refuse .windowState
  | .closing m refs _ ticket => .finish .ok noWords (s.putWindow w (.closing m refs .toFree ticket))

/-- WIN_RELEASE. -/
def execWinRelease (s : State) : Host.Outcome State Fault Refusal :=
  taken (runCommand .winRelease fun o s => checked (windowOperand o) (releaseWindow s)) s

/-! ### WIN_READ and WIN_LOOKUP (R26, R27) -/

/-- WIN_READ after the common checks. -/
def readWindow (s : State) (w : WinIx) : Completion := .finish .ok (winReadWords (s.windows.get w)) s

/-- WIN_READ. -/
def execWinRead (s : State) : Host.Outcome State Fault Refusal :=
  taken (runCommand .winRead fun o s => checked (windowOperand o) (readWindow s)) s

/-- WIN_LOOKUP after the common checks. -/
def lookupPage (s : State) (page : Nat) : Completion :=
  .finish .ok (winLookupWords ((s.lookup page).map fun w => (w, s.windows.get w))) s

/-- WIN_LOOKUP. -/
def execWinLookup (s : State) : Host.Outcome State Fault Refusal :=
  taken (runCommand .winLookup fun o s => checked (pageOperand o) (lookupPage s)) s

end Sys2Proof.Machine
end

