-- ==== Sys2Proof/Machine/Dispatch.lean ====
section
/-! DEFINITION. The meaning of every command: one arm per constructor of Instr. -/

namespace Sys2Proof.Machine

/-- The effect of a command on everything but the queue. -/
def exec (i : Instr) (s : State) : Host.Outcome State Fault Refusal :=
  match i with
  | .apertureAccess tag op addr size data => Sys2Proof.Machine.execApertureAccess tag op addr size data s
  | .controlBlockWrite tag addr size data => Sys2Proof.Machine.execControlBlockWrite tag addr size data s
  | .commandStatusRead tag addr size => Sys2Proof.Machine.execCommandStatusRead tag addr size s
  | .ack tag line => Sys2Proof.Machine.execAck tag line s
  | .eos tag line value => Sys2Proof.Machine.execEos tag line value s
  | .cmdOverrun tag code => Sys2Proof.Machine.execCmdOverrun tag code s
  | .nop => Sys2Proof.Machine.execNop s
  | .winStage => Sys2Proof.Machine.execWinStage s
  | .winOpen => Sys2Proof.Machine.execWinOpen s
  | .winClose => Sys2Proof.Machine.execWinClose s
  | .winRelease => Sys2Proof.Machine.execWinRelease s
  | .winRead => Sys2Proof.Machine.execWinRead s
  | .winLookup => Sys2Proof.Machine.execWinLookup s
  | .slotRead => Sys2Proof.Machine.execSlotRead s
  | .profileRead => Sys2Proof.Machine.execProfileRead s
  | .slotAdmit => Sys2Proof.Machine.execSlotAdmit s
  | .slotEject => Sys2Proof.Machine.execSlotEject s
  | .slotRecover => Sys2Proof.Machine.execSlotRecover s
  | .slotClearPosted => Sys2Proof.Machine.execSlotClearPosted s
  | .srcRoute => Sys2Proof.Machine.execSrcRoute s
  | .srcRead => Sys2Proof.Machine.execSrcRead s
  | .ticketRead => Sys2Proof.Machine.execTicketRead s
  | .ticketCollect => Sys2Proof.Machine.execTicketCollect s
  | .partConfig => Sys2Proof.Machine.execPartConfig s
  | .partConfigRead => Sys2Proof.Machine.execPartConfigRead s
  | .partReset => Sys2Proof.Machine.execPartReset s
  | .partResetEnd apsel cbsel => Sys2Proof.Machine.execPartResetEnd apsel cbsel s
  | .hostPortReset => Sys2Proof.Machine.execHostPortReset s
  | .hostPortResetRelease => Sys2Proof.Machine.execHostPortResetRelease s
  | .presenceAsserted slot => Sys2Proof.Machine.execPresenceAsserted slot s
  | .presenceDeasserted slot => Sys2Proof.Machine.execPresenceDeasserted slot s
  | .settleTimerExpiry slot => Sys2Proof.Machine.execSettleTimerExpiry slot s
  | .removalFilterExpiry slot place => Sys2Proof.Machine.execRemovalFilterExpiry slot place s
  | .powerGoodAsserted slot => Sys2Proof.Machine.execPowerGoodAsserted slot s
  | .powerGoodLoss slot => Sys2Proof.Machine.execPowerGoodLoss slot s
  | .qualificationExpiry slot => Sys2Proof.Machine.execQualificationExpiry slot s
  | .powerTimerExpiry slot => Sys2Proof.Machine.execPowerTimerExpiry slot s
  | .trainingTimerExpiry slot => Sys2Proof.Machine.execTrainingTimerExpiry slot s
  | .ready slot count => Sys2Proof.Machine.execReady slot count s
  | .sendRequest slot => Sys2Proof.Machine.execSendRequest slot s
  | .completion slot tag status data => Sys2Proof.Machine.execCompletion slot tag status data s
  | .completionTimerExpiry slot tag => Sys2Proof.Machine.execCompletionTimerExpiry slot tag s
  | .quarantineTimerExpiry slot tag => Sys2Proof.Machine.execQuarantineTimerExpiry slot tag s
  | .attention slot causes => Sys2Proof.Machine.execAttention slot causes s
  | .ejectRequest slot => Sys2Proof.Machine.execEjectRequest slot s
  | .quiesced slot => Sys2Proof.Machine.execQuiesced slot s
  | .quiesceTimerExpiry slot => Sys2Proof.Machine.execQuiesceTimerExpiry slot s
  | .unknownPacketKind slot => Sys2Proof.Machine.execUnknownPacketKind slot s
  | .packetCheckFailure slot => Sys2Proof.Machine.execPacketCheckFailure slot s
  | .linkLoss slot => Sys2Proof.Machine.execLinkLoss slot s
  | .busClear pulses => Sys2Proof.Machine.execBusClear pulses s
  | .headerTransaction a b c d => Sys2Proof.Machine.execHeaderTransaction a b c d s
  | .bodyTransaction run => Sys2Proof.Machine.execBodyTransaction run s
  | .attemptFails => Sys2Proof.Machine.execAttemptFails s
  | .retryTimerExpiry => Sys2Proof.Machine.execRetryTimerExpiry s
  | .abandonedByteEnd => Sys2Proof.Machine.execAbandonedByteEnd s
  | .commandIssue tag code => Sys2Proof.Machine.execCommandIssue tag code s
  | .badCommand => Sys2Proof.Machine.execBadCommand s

end Sys2Proof.Machine
end

