-- ==== Sys2Proof/Safety.lean ====
section
/-! DEFINITION. What the records of the part always agree on, in every state a run reaches: the whole-machine rules the
spec states beside its tables. `Safe` gathers them; each part names the rules it says. -/

namespace Sys2Proof.Machine

/-! ### Lifecycle: slot, link and identification (R75, R76, R90) -/

/-- The link state that goes with a slot state (R90). -/
def SlotState.goesWith : SlotState → LinkState → Bool
  | .linking, l => l == .training
  | .active, l => l == .up
  | .ejecting, l => l == .up || l == .quiescing
  | _, l => l == .down

/-- The slot whose read the controller is serving; an abandoned read serves none (R76, R86). -/
def IdentCtl.serving : IdentCtl → Option SlotIx
  | .idle => none
  | .reading r => some r.slot
  | .retryWait r _ => some r.slot
  | .abandoning _ => none

/-- The read in progress: its attempt is 1 to 3, and its bytes and image length are those of its phase: none in
BUS_CLEAR, fewer than 4 in HEADER, a header that passed and less than the image in BODY (R78, R79, R80, R81). Image bytes
of a transaction come after its three bytes of the part's. -/
def ReadRecord.sound (r : ReadRecord) : Bool :=
  decide (1 ≤ r.attempt ∧ r.attempt ≤ 3) && decide (r.sent ≤ 3)
    && match r.phase, r.bytes with
      | .busClear, bytes => r.sent == 0 && bytes.isEmpty && r.imageLength.isNone
      | .header, bytes => decide (bytes.length < 4) && r.imageLength.isNone && (bytes.isEmpty || r.sent == 3)
      | .body, b0 :: b1 :: b2 :: b3 :: rest =>
        headerPasses b0 b1 b2 b3 && r.imageLength == some (leNat [b2, b3]) && decide (4 + rest.length < leNat [b2, b3])
          && (rest.isEmpty || r.sent == 3)
      | .body, _ => false

/-- The read in progress the controller holds is sound; a retry follows attempt 1 or 2 (R82), and an abandoned byte is one
of a transaction (R86). -/
def IdentCtl.sound : IdentCtl → Bool
  | .idle => true
  | .reading r => r.sound
  | .retryWait r _ => r.sound && decide (r.attempt ≤ 2)
  | .abandoning r => r.sound && r.phase != .busClear

/-- Slots, links and the Identification Controller agree: each link is in the state of its slot (R90); the
Identification Queue holds each QUEUED slot once and no other (R75); the slot being read is the one IDENTIFYING slot
(R75); an IDLE controller leaves no slot waiting (R76). -/
structure LifecycleHeld (s : State) : Prop where
  link : ∀ n, (s.slots.get n).state.goesWith (s.links.get n).state = true
  queueOnce : s.identQueue.Nodup
  queueExact : ∀ n, n ∈ s.identQueue ↔ (s.slots.get n).state = .queued
  reading : ∀ n, (s.slots.get n).state = .identifying ↔ s.ident.serving = some n
  served : s.ident = .idle → s.identQueue = []
  sound : s.ident.sound = true

/-- While part reset is in force every record stands at its part reset value (R158). -/
def ResetHeld (s : State) : Prop :=
  s.partReset = true →
    s = { State.reset with
          partReset := true
          hostReset := s.hostReset
          apStrap := s.apStrap
          cbStrap := s.cbStrap
          presence := s.presence
          powerGood := s.powerGood
          pending := s.pending }

/-! ### Power (R50, R55) -/

/-- A profile is held in these states, and not in the unidentified ones; FAULTED may be either (R6, R50). -/
def SlotState.profileFits (held : Bool) : SlotState → Bool
  | .empty | .settling | .queued | .identifying => !held
  | .identified | .powering | .linking | .active | .ejecting => held
  | .faulted _ => true

/-- A slot's power: PWREN exactly in the powered states, the committed units those of the profile there and 0 elsewhere
(R50, R55). -/
def Slot.powerFits (r : Slot) : Bool :=
  r.state.profileFits r.profile.isSome && r.mainPower == r.state.powered
    && r.committedUnits == if r.state.powered then r.powerUnits else 0

/-- The power account: every slot's power fits its state, and committed never exceeds the budget (R55). -/
structure PowerHeld (s : State) : Prop where
  slot : ∀ n, (s.slots.get n).powerFits = true
  budget : s.committed ≤ s.config.budget

/-! ### Timers and usable tags (R50, R51, R52, R58, R68, R94) -/

/-- The timers of a slot run exactly in their states, and usable tags are held exactly while the link is UP or
QUIESCING, 1 to 8 of them. -/
def Slot.timersFit (r : Slot) (l : Link) : Bool :=
  r.settleTimer.isSome == (r.state == .settling) && r.powerTimer.isSome == (r.state == .powering)
    && (r.removalFilter.isNone || r.state.filtered) && r.quiesceTimer.isSome == (l.state == .quiescing)
    && l.trainingTimer.isSome == (l.state == .training)
    && (match r.usableTags with
        | none => !(r.state == .active || r.state == .ejecting)
        | some u => (r.state == .active || r.state == .ejecting) && decide (1 ≤ u ∧ u ≤ 8))

/-- Every slot's timers and usable tags fit its state. -/
def TimersHeld (s : State) : Prop := ∀ n, (s.slots.get n).timersFit (s.links.get n) = true

/-! ### Ranges (R1, R55, R87) -/

/-- A mapping lies within the aperture and the module address space (R1). -/
def Mapping.inRange (m : Mapping) : Bool :=
  decide (1 ≤ m.pages ∧ m.pages ≤ Config.maxPages ∧ m.base + m.pages ≤ Config.aperturePages
    ∧ m.moduleBase + m.pages ≤ Config.modulePages)

/-- A profile request is within its ranges (R87). -/
def Request.inRange (r : Request) : Bool :=
  decide (r.alignment ≤ 16 ∧ 1 ≤ r.pages ∧ r.pages ≤ Config.maxPages ∧ r.base + r.pages ≤ Config.modulePages)

/-- A profile holds 0 to 6 requests, each within its ranges (R87). -/
def Profile.inRange (p : Profile) : Bool := decide (p.requests.length ≤ 6) && p.requests.all Request.inRange

/-- Windows, profiles and the budget are within the ranges their records give. -/
structure RangesHeld (s : State) : Prop where
  window : ∀ w m, (s.windows.get w).mapping = some m → m.inRange = true
  profile : ∀ n p, (s.slots.get n).profile = some p → p.inRange = true
  budget : s.config.budget ≤ Config.maxBudget

/-! ### Windows (R6, R9, R10, R12, R20, R25) -/

/-- A window's state is possible in its slot's state (R12, R25), its slot holds a profile (R6), and a CLOSING window
still holds a reference (R20). -/
def Window.fits (s : State) (x : Window) : Bool :=
  match x with
  | .free => true
  | .staged m => (s.slots.get m.slot).profile.isSome
  | .opened m _ => (s.slots.get m.slot).state == .active
  | .closing m refs _ _ =>
    ((s.slots.get m.slot).state == .active || (s.slots.get m.slot).state == .ejecting) && decide (1 ≤ refs)

/-- No two windows that are not FREE cover a common aperture page (R10) or name the same slot and request (R9), and
every window's state is possible in its slot's state (R25). -/
structure WindowsHeld (s : State) : Prop where
  apart : ∀ v w page, v ≠ w → (s.windows.get v).covers page = true → (s.windows.get w).covers page = false
  grantOnce : ∀ v w n q, v ≠ w → (s.windows.get v).grants n q = true → (s.windows.get w).grants n q = false
  fits : ∀ w, (s.windows.get w).fits s = true

/-! ### References, queues and tags (R18, R38, R97) -/

/-- The windows that the entries and IN_FLIGHT tags of an engine name, one for each reference it holds (R18). -/
def Link.heldWindows (l : Link) : List WinIx := l.owed.map Owed.window

/-- The windows that all Pending Queue entries and IN_FLIGHT tags name. -/
def State.heldWindows (s : State) : List WinIx := (List.finRange 8).flatMap fun n => (s.links.get n).heldWindows

/-- A window's references are the entries and IN_FLIGHT tags that name it (R18), and those of a slot's engine name
windows of that slot alone (R1). -/
structure ReferencesHeld (s : State) : Prop where
  counted : ∀ w, (s.windows.get w).refs = s.heldWindows.count w
  own : ∀ n, ∀ w ∈ (s.links.get n).heldWindows, (s.windows.get w).ofSlot n = true

/-- The engine has no work: no entry queued and every tag FREE. -/
def Link.idle (l : Link) : Bool := l.queue.isEmpty && (List.finRange 8).all fun k => l.tags.get k == .free

/-- Pending Queues hold at most 16 entries (R38), IN_FLIGHT plus STALE tags are within the usable count (R97), and an
engine whose link is not UP has no work (R38, R68, R97). -/
structure QueuesHeld (s : State) : Prop where
  capacity : ∀ n, (s.links.get n).queue.length ≤ Config.queueCapacity
  tags : ∀ n, (s.links.get n).tagsInUse ≤ (s.slots.get n).usableTags.getD 0
  idle : ∀ n, (s.links.get n).state ≠ .up → (s.links.get n).idle = true

/-! ### Host tags (R149) -/

/-- The host tags an engine still owes an answer: of queued entries, and of IN_FLIGHT tags not orphaned (R36, R103). -/
def Link.owedTags (l : Link) : List HostTag :=
  l.owed.filterMap fun o => if o.orphaned then none else o.hostTag

/-- The host tags the engines still owe an answer. -/
def State.owedTags (s : State) : List HostTag := (List.finRange 8).flatMap fun n => (s.links.get n).owedTags

/-- A host tag is IN_FLIGHT exactly while one queue entry or link tag owes its answer (R47, R149). -/
def HostTagsHeld (s : State) : Prop := ∀ t, s.owedTags.count t = if s.hostTable.get t then 1 else 0

/-! ### Tickets (R142, R143) -/

/-- The ticket is OPEN for this operation. -/
def Ticket.isOpen (op : TicketOp) (t : Ticket) : Bool := t.body == .opened op

/-- The operation of an OPEN ticket is in progress at its target (3.10, R20, R143). -/
def TicketOp.inProgress (s : State) (id : Nat) : TicketOp → Bool
  | .close w => (s.windows.get w).closeTicket == some id
  | .admission n => (s.slots.get n).state == .powering || (s.slots.get n).state == .linking
  | .ejection n => (s.slots.get n).state == .ejecting
  | .recovery n => (s.slots.get n).state == .queued || (s.slots.get n).state == .identifying

/-- At most one ticket is OPEN for a window or a slot (R142); an OPEN ticket's operation is in progress; a window's
close ticket is an OPEN ticket for that window (R1, R20); a slot under admission or ejection has its OPEN ticket
(3.10). -/
structure TicketsHeld (s : State) : Prop where
  windowOnce : ∀ w j k, (s.tickets.get j).openFor (TicketOp.onWindow w) = true →
    (s.tickets.get k).openFor (TicketOp.onWindow w) = true → j = k
  slotOnce : ∀ n j k, (s.tickets.get j).openFor (TicketOp.onSlot n) = true →
    (s.tickets.get k).openFor (TicketOp.onSlot n) = true → j = k
  progress : ∀ k op, (s.tickets.get k).isOpen op = true → op.inProgress s ((s.tickets.get k).id k) = true
  close : ∀ w id, (s.windows.get w).closeTicket = some id →
    (s.tickets.get (ticketIndex id)).isOpen (.close w) = true ∧ (s.tickets.get (ticketIndex id)).id (ticketIndex id) = id
  admission : ∀ n, (s.slots.get n).state = .powering ∨ (s.slots.get n).state = .linking →
    ∃ k, (s.tickets.get k).isOpen (.admission n) = true
  ejection : ∀ n, (s.slots.get n).state = .ejecting → ∃ k, (s.tickets.get k).isOpen (.ejection n) = true

/-! ### All of it -/

/-- What the records of the part agree on in every state a run reaches. -/
structure Safe (s : State) : Prop where
  lifecycle : LifecycleHeld s
  reset : ResetHeld s
  power : PowerHeld s
  timers : TimersHeld s
  ranges : RangesHeld s
  windows : WindowsHeld s
  references : ReferencesHeld s
  queues : QueuesHeld s
  hostTags : HostTagsHeld s
  tickets : TicketsHeld s

end Sys2Proof.Machine
end

