-- ==== Sys2Proof/Expected.lean ====
section
/-! DEFINITION. What the rules say a step leaves, written out field by field: the terms the statements use beside
`Safe`. Nothing in the machine uses this file. Codes, bits and addresses stand as numbers, as chapter 9 gives them. -/

namespace Sys2Proof.Expected

open Sys2Proof.Machine

/-! ### Pieces -/

/-- `s` with causes added to source `i` (R111). -/
def withCauses (i : Fin 18) (causes : Byte) (s : State) : State :=
  { s with sources := s.sources.put i { s.sources.get i with causes := (s.sources.get i).causes ||| causes } }

/-- `s` with the outputs of a step that sends nothing. -/
def silent (s : State) : State := { s with out := Outputs.nothing }

/-- `s` with one response as the step's only output (R148). -/
def responding (t : HostTag) (code : RespCode) (data : Option Word) (s : State) : State :=
  { s with out := { Outputs.nothing with responses := Outputs.nothing.responses.put t (some { code, data }) } }

/-- No result word set (R133). -/
def zeros : Tbl 4 Word := Tbl.fill 0

/-- A result of one word (R155). -/
def oneWord (v : Nat) : Tbl 4 Word := zeros.put 0 (BitVec.ofNat 32 v)

/-- A command completed with nothing else changed: result set, engine DONE, CMD_DONE raised (R129). -/
def completed (code : ResultCode) (results : Tbl 4 Word) (s : State) : State :=
  withCauses 16 0x01 (silent { s with engine := { s.engine with state := .finished code, results := results } })

/-- The command with this code is in execution, and part reset is not in force. -/
abbrev executing (code : Word) (s : State) : Prop :=
  s.partReset = false ∧ s.engine.state = .executing ∧ s.engine.takenCode = code

/-- Taken operand word `k` holds the number `v`. -/
abbrev operand (s : State) (k : Fin 4) (v : Nat) : Prop := s.engine.takenOperands.get k = BitVec.ofNat 32 v

/-- Result word `k` reads the number `v`: its fields at their places, every other bit 0 (R155). -/
abbrev reads (results : Tbl 4 Word) (k : Fin 4) (v : Nat) : Prop := (results.get k).toNat = v

/-- A flag as a number. -/
abbrev bit (b : Bool) : Nat := b.toNat

/-! ### The code tables and durations (R135, R154, R155, R156) -/

/-- The code of a command (R154). -/
def commandNumber : Command → Word
  | .nop => 0x00
  | .winStage => 0x01
  | .winOpen => 0x02
  | .winClose => 0x03
  | .winRelease => 0x04
  | .winRead => 0x05
  | .winLookup => 0x06
  | .slotRead => 0x10
  | .profileRead => 0x11
  | .slotAdmit => 0x12
  | .slotEject => 0x13
  | .slotRecover => 0x14
  | .slotClearPosted => 0x15
  | .srcRoute => 0x20
  | .srcRead => 0x21
  | .ticketRead => 0x30
  | .ticketCollect => 0x31
  | .partConfig => 0x40
  | .partConfigRead => 0x41

/-- Rights (R154). -/
def rightsNumber : Rights → Nat
  | .read => 1
  | .write => 2
  | .readWrite => 3

/-- Kind (R154, R157). -/
def kindNumber : Kind → Nat
  | .mem => 0
  | .reg => 1

/-- Settle time (R154). -/
def settleNumber : SettleTime → Nat
  | .ms25 => 0
  | .ms50 => 1
  | .ms100 => 2
  | .ms200 => 3

/-- Power timeout (R154). -/
def powerNumber : PowerTimeout → Nat
  | .ms50 => 0
  | .ms100 => 1
  | .ms200 => 2
  | .ms400 => 3

/-- Completion timeout (R154). -/
def completionNumber : CompletionTimeout → Nat
  | .us250 => 0
  | .us500 => 1
  | .ms1 => 2
  | .ms2 => 3
  | .ms4 => 4
  | .ms8 => 5
  | .ms16 => 6

/-- Identification clock (R154). -/
def clockNumber : IdentClock → Nat
  | .khz100 => 0
  | .khz400 => 1

/-- Window state (R155). -/
def windowNumber : Window → Nat
  | .free => 0
  | .staged _ => 1
  | .opened _ _ => 2
  | .closing _ _ _ _ => 3

/-- Fault cause (R155). -/
def faultNumber : FaultCause → Nat
  | .identNoAnswer => 1
  | .identBadImage => 2
  | .powerTimeout => 3
  | .powerLost => 4
  | .linkTimeout => 5
  | .linkProtocol => 6
  | .linkLost => 7

/-- Posted-failure cause (R155). -/
def postedNumber : PostedCause → Nat
  | .moduleError => 1
  | .timeout => 2
  | .aborted => 3

/-- Ticket kind (R155). -/
def ticketKindNumber : TicketOp → Nat
  | .close _ => 0
  | .admission _ => 1
  | .ejection _ => 2
  | .recovery _ => 3

/-- Ticket target: window or slot (R155). -/
def ticketTargetNumber : TicketOp → Nat
  | .close w => w.val
  | .admission n => n.val
  | .ejection n => n.val
  | .recovery n => n.val

/-- Ticket outcome (R155). -/
def outcomeNumber : TicketOutcome → Nat
  | .success => 1
  | .forced => 2
  | .failed => 3
  | .overtaken => 4

/-- Ticket detail (R155). -/
def detailNumber : TicketDetail → Nat
  | .staged => 1
  | .free => 2
  | .fault cause => faultNumber cause

/-- Slot state (R156). -/
def slotStateNumber : SlotState → Nat
  | .empty => 0
  | .settling => 1
  | .queued => 2
  | .identifying => 3
  | .identified => 4
  | .powering => 5
  | .linking => 6
  | .active => 7
  | .ejecting => 8
  | .faulted _ => 9

/-- Result code (R156). -/
def resultNumber : ResultCode → Nat
  | .ok => 1
  | .accepted => 2
  | .badCommand => 3
  | .badOperand => 4
  | .windowState => 5
  | .overlap => 6
  | .noFreeWindow => 7
  | .requestTaken => 8
  | .alignment => 9
  | .slotState => 10
  | .noProfile => 11
  | .noPower => 12
  | .budgetInUse => 13
  | .targetBusy => 14
  | .noTicket => 15
  | .noSuchTicket => 16
  | .ticketOpen => 17

/-- State and result code of the command status word (R156). -/
def engineNumber : EngineState → Nat
  | .idle => 0
  | .executing => 1
  | .finished code => 2 + 256 * resultNumber code

/-- The settle time in microseconds (R135). -/
def settleDuration : SettleTime → Nat
  | .ms25 => 25000
  | .ms50 => 50000
  | .ms100 => 100000
  | .ms200 => 200000

/-- The power timeout in microseconds (R135). -/
def powerDuration : PowerTimeout → Nat
  | .ms50 => 50000
  | .ms100 => 100000
  | .ms200 => 200000
  | .ms400 => 400000

/-- The completion timeout in microseconds (R135). -/
def completionDuration : CompletionTimeout → Nat
  | .us250 => 250
  | .us500 => 500
  | .ms1 => 1000
  | .ms2 => 2000
  | .ms4 => 4000
  | .ms8 => 8000
  | .ms16 => 16000

/-! ### The commands (R132, R154) -/

/-- The row that completes a command of the catalogue. -/
def completion : Command → Instr
  | .nop => .nop
  | .winStage => .winStage
  | .winOpen => .winOpen
  | .winClose => .winClose
  | .winRelease => .winRelease
  | .winRead => .winRead
  | .winLookup => .winLookup
  | .slotRead => .slotRead
  | .profileRead => .profileRead
  | .slotAdmit => .slotAdmit
  | .slotEject => .slotEject
  | .slotRecover => .slotRecover
  | .slotClearPosted => .slotClearPosted
  | .srcRoute => .srcRoute
  | .srcRead => .srcRead
  | .ticketRead => .ticketRead
  | .ticketCollect => .ticketCollect
  | .partConfig => .partConfig
  | .partConfigRead => .partConfigRead

/-- The nineteen codes of the catalogue (R154). -/
def definedCodes : List Nat :=
  [0x00, 0x01, 0x02, 0x03, 0x04, 0x05, 0x06, 0x10, 0x11, 0x12, 0x13, 0x14, 0x15, 0x20, 0x21, 0x30, 0x31, 0x40, 0x41]

/-- The taken operands pass common checks 2 and 3: every operand used is in its range, and in every word used the bits
assigned to no operand are 0 (R132, R154). Each word is cut at the bit positions of R154. -/
def operandsPass (c : Command) (o : Tbl 4 Word) : Bool :=
  let w := (o.get 0).toNat
  match c with
  | .nop => true
  | .winStage =>
    decide ((w % 128 < 64 ∨ w % 128 = 127) ∧ w / 128 % 2 = 0 ∧ w / 2048 % 2 = 0 ∧ w / 4096 % 8 ≠ 6
      ∧ w / 32768 % 2 = 0 ∧ w / 65536 % 4 ≠ 0 ∧ w / 262144 % 4 = 0 ∧ w < 2 ^ 21 ∧ (o.get 1).toNat < 2 ^ 18
      ∧ (w / 4096 % 8 = 7 → (o.get 2).toNat < 2 ^ 17 ∧ (o.get 3).toNat < 2 ^ 20))
  | .winOpen => decide (w < 64)
  | .winClose => decide (w < 64)
  | .winRelease => decide (w < 64)
  | .winRead => decide (w < 64)
  | .winLookup => decide (w < 262144)
  | .slotRead => decide (w < 8)
  | .profileRead => decide (w % 256 < 8 ∧ w / 256 < 7)
  | .slotAdmit => decide (w < 8)
  | .slotEject => decide (w < 8)
  | .slotRecover => decide (w < 8)
  | .slotClearPosted => decide (w < 8)
  | .srcRoute =>
    decide (w % 32 < 18 ∧ w / 32 % 8 = 0 ∧ w / 512 % 8 = 0 ∧ w / 16384 % 4 = 0 ∧ w < 2 ^ 19)
  | .srcRead => decide (w < 18)
  | .ticketRead => decide (w < 256)
  | .ticketCollect => decide (w < 256)
  | .partConfig =>
    decide (w / 4 % 4 = 0 ∧ w / 64 % 4 = 0 ∧ w / 256 % 8 ≠ 7 ∧ w / 2048 % 2 = 0 ∧ w < 2 ^ 13
      ∧ (o.get 1).toNat ≤ 4000)
  | .partConfigRead => true

/-- The refusals each command can return (R133, the table of result codes). -/
def refusals : Command → List ResultCode
  | .nop => []
  | .winStage =>
    [.badOperand, .windowState, .overlap, .noFreeWindow, .requestTaken, .alignment, .noProfile]
  | .winOpen => [.badOperand, .windowState, .slotState]
  | .winClose => [.badOperand, .windowState, .targetBusy, .noTicket]
  | .winRelease => [.badOperand, .windowState]
  | .winRead => [.badOperand]
  | .winLookup => [.badOperand]
  | .slotRead => [.badOperand]
  | .profileRead => [.badOperand, .noProfile]
  | .slotAdmit => [.badOperand, .slotState, .noPower, .targetBusy, .noTicket]
  | .slotEject => [.badOperand, .slotState, .targetBusy, .noTicket]
  | .slotRecover => [.badOperand, .slotState, .targetBusy, .noTicket]
  | .slotClearPosted => [.badOperand]
  | .srcRoute => [.badOperand]
  | .srcRead => [.badOperand]
  | .ticketRead => [.badOperand, .noSuchTicket]
  | .ticketCollect => [.badOperand, .noSuchTicket, .ticketOpen]
  | .partConfig => [.badOperand, .budgetInUse]
  | .partConfigRead => []

/-- The four deferred commands (R134). -/
def isDeferred : Command → Bool
  | .winClose => true
  | .slotAdmit => true
  | .slotEject => true
  | .slotRecover => true
  | _ => false

/-! ### Windows -/

/-- The index WIN_STAGE uses: the named one, FREE, or for ANY the lowest FREE one (R11). -/
abbrev stagedAt (s : State) (named : Option WinIx) (w : WinIx) : Prop :=
  s.windows.get w = .free ∧ (named = some w ∨ named = none ∧ ∀ u, u < w → s.windows.get u ≠ .free)

/-- Some page of the run is covered by a window that is not FREE (R10). -/
def pagesHeld (s : State) (base pages : Nat) : Prop :=
  ∃ u page, base ≤ page ∧ page < base + pages ∧ (s.windows.get u).covers page = true

/-- The request of the slot is granted by a window that is not FREE (R9). -/
def requestHeld (s : State) (n : SlotIx) (q : Fin 6) : Prop := ∃ u, (s.windows.get u).grants n q = true

/-- Word 0 of WIN_STAGE (R154). -/
def stageWord (named : Option WinIx) (n : SlotIx) (request : Option (Fin 6)) (rights : Rights) (kind : Kind) : Nat :=
  named.elim 127 Fin.val + 256 * n.val + 4096 * request.elim 7 Fin.val + 65536 * rightsNumber rights
    + 2 ^ 20 * kindNumber kind

/-- The fields of a mapping in result word 0 of WIN_READ (R155): slot, request, kind, rights. -/
def mappingNumber (m : Mapping) : Nat :=
  16 * m.slot.val + (m.request.elim 0 fun q => 256 * q.val + 2048) + 4096 * kindNumber m.kind
    + 65536 * rightsNumber m.rights

/-- The window covers the page and no other one does (R3). -/
abbrev coveredBy (s : State) (page : Nat) (w : WinIx) : Prop :=
  (s.windows.get w).covers page = true ∧ ∀ u, (s.windows.get u).covers page = true → u = w

/-- A window of slot `n` after every reference of that slot is released: OPEN and CLOSING windows have drained, to
STAGED unless a release asked for FREE (R21, R22). -/
def drainedWindow (n : SlotIx) (x : Window) : Window :=
  match x with
  | .opened m _ => if m.slot = n then .staged m else x
  | .closing m _ .toStaged _ => if m.slot = n then .staged m else x
  | .closing m _ .toFree _ => if m.slot = n then .free else x
  | _ => x

/-- A window after the module of slot `n` is removed: every one of that slot is FREE (R23). -/
def removedWindow (n : SlotIx) (x : Window) : Window := if x.ofSlot n then .free else x

/-- A window that loses `k` references, draining when it is CLOSING and has no more (R19, R20). -/
def releasedWindow (k : Nat) (x : Window) : Window :=
  match x with
  | .opened m refs => .opened m (refs - k)
  | .closing m refs d ticket =>
    if 0 < k ∧ refs ≤ k then (match d with | .toStaged => .staged m | .toFree => .free)
    else .closing m (refs - k) d ticket
  | _ => x

/-! ### Tickets -/

/-- Some ticket is OPEN for this operation. -/
abbrev ticketOpen (s : State) (op : TicketOp) : Prop := ∃ k, (s.tickets.get k).body = .opened op

/-- Some ticket is OPEN whose target is the slot (R57, R66, R71). -/
abbrev slotBusy (s : State) (n : SlotIx) : Prop :=
  ticketOpen s (.admission n) ∨ ticketOpen s (.ejection n) ∨ ticketOpen s (.recovery n)

/-- Record `k` is the lowest FREE ticket record (R141). -/
abbrev lowestFree (s : State) (k : Fin 8) : Prop :=
  (s.tickets.get k).body = .free ∧ ∀ j, j < k → (s.tickets.get j).body ≠ .free

/-- No ticket record is FREE. -/
abbrev noTicketFree (s : State) : Prop := ∀ k, (s.tickets.get k).body ≠ .free

/-- The id record `k` has after its next allocation (R140, R141). -/
def nextId (s : State) (k : Fin 8) : Nat := ((s.tickets.get k).sequence + 1).val * 8 + k.val

/-- `s` with record `k` allocated (R141). -/
def allocated (k : Fin 8) (op : TicketOp) (s : State) : State :=
  { s with tickets := s.tickets.put k { sequence := (s.tickets.get k).sequence + 1, body := .opened op } }

/-- `s` with every ticket finished that `ending` gives an outcome, and TICKET_DONE raised when there is one (R143). -/
def withOutcomes (ending : TicketOp → Option (TicketOutcome × Option TicketDetail)) (s : State) : State :=
  let finish (t : Ticket) : Ticket :=
    match t.body with
    | .opened op => (match ending op with | some e => { t with body := .finished op e.1 e.2 } | none => t)
    | _ => t
  let ends (t : Ticket) : Bool :=
    match t.body with
    | .opened op => (ending op).isSome
    | _ => false
  withCauses 16 (if (List.finRange 8).any fun k => ends (s.tickets.get k) then 0x02 else 0)
    { s with tickets := s.tickets.each fun _ t => finish t }

/-- A ticket of slot `n` ends so, whatever its kind (3.10). -/
def slotEnding (n : SlotIx) (outcome : TicketOutcome) (detail : Option TicketDetail) (op : TicketOp) :
    Option (TicketOutcome × Option TicketDetail) :=
  if op = .admission n ∨ op = .ejection n ∨ op = .recovery n then some (outcome, detail) else none

/-- A close ticket ends when its window drains: SUCCESS with the state reached (R20). -/
def closeEnding (before after : Tbl 64 Window) (op : TicketOp) : Option (TicketOutcome × Option TicketDetail) :=
  match op with
  | .close w =>
    match before.get w, after.get w with
    | .closing _ _ _ (some _), .staged _ => some (.success, some .staged)
    | .closing _ _ _ (some _), .free => some (.success, some .free)
    | _, _ => none
  | _ => none

/-! ### Posted failures (R67) -/

/-- The posted-failure record after one failure. -/
def recorded (record : Option PostedFailure) (w : WinIx) (addr : Word) (cause : PostedCause) : Option PostedFailure :=
  match record with
  | none => some { window := w, addr, cause, more := false }
  | some f => some { f with more := true }

/-- POSTED_FAILED is raised when the record is written or its more flag is first set. -/
def recordCauses (before after : Option PostedFailure) : Byte := if before = after then 0 else 0x40

/-- The posted-failure record after the posted requests of a teardown, tags before the queue (R41, R108). -/
def recordedAll (record : Option PostedFailure) (l : List Owed) : Option PostedFailure :=
  match record, l.filter fun o => o.hostTag.isNone with
  | r, [] => r
  | none, o :: rest => some { window := o.window, addr := o.addr, cause := .aborted, more := !rest.isEmpty }
  | some f, _ :: _ => some { f with more := true }

/-! ### Identification (R76, R79) -/

/-- `s` with its controller free to serve: IDLE on an empty queue, else reading the head of the queue at attempt 1. -/
def servingNext (s : State) : State :=
  match s.identQueue with
  | [] => { s with ident := .idle }
  | n :: rest =>
    { s with
      identQueue := rest
      slots := s.slots.put n { s.slots.get n with state := .identifying }
      ident := .reading
        { slot := n
          attempt := 1
          clock := s.config.clock
          phase := .busClear
          sent := 0
          bytes := []
          imageLength := none } }

/-- A read ends in failure (R84). -/
def readFailed (n : SlotIx) (cause : FaultCause) (s : State) : State :=
  servingNext (withOutcomes
    (fun op => if op = .recovery n then some (.failed, some (.fault cause)) else none)
    (withCauses ⟨8 + n.val, by omega⟩ 0x10
      { s with slots := s.slots.put n { s.slots.get n with state := .faulted cause, profile := none } }))

/-- A read succeeds (R85). -/
def readDone (n : SlotIx) (p : Profile) (s : State) : State :=
  servingNext (withOutcomes (fun op => if op = .recovery n then some (.success, none) else none)
    (withCauses ⟨8 + n.val, by omega⟩ 0x01
      { s with slots := s.slots.put n { s.slots.get n with state := .identified, profile := some p } }))

/-! ### Teardowns (R63, R53, R70) -/

/-- `s` with the access work of slot `n` withdrawn: the windows as `window` gives, their close tickets ended, the
engine at rest with its link DOWN, every request owed an answer answered with `code`, its host tag freed (R108). -/
def withdrawn (n : SlotIx) (code : RespCode) (window : Window → Window) (s : State) : State :=
  let owed := (s.links.get n).owedTags
  let windows := s.windows.each fun _ => window
  { withOutcomes (closeEnding s.windows windows) s with
    windows
    links := s.links.put n Link.reset
    hostTable := s.hostTable.each fun t b => b && !owed.contains t
    out :=
      { Outputs.nothing with
        responses := Tbl.make fun t => if owed.contains t then some { code, data := none } else none } }

/-- The slot record after a fault: power off, units returned, profile kept, aborted posted writes recorded (R63). -/
def faultedSlot (s : State) (n : SlotIx) (cause : FaultCause) : Slot :=
  { s.slots.get n with
    state := .faulted cause
    committedUnits := 0
    mainPower := false
    usableTags := none
    posted := recordedAll (s.slots.get n).posted (s.links.get n).owed
    powerTimer := none
    quiesceTimer := none }

/-- A fault of slot `n` (R63). -/
def faultTaken (n : SlotIx) (cause : FaultCause) (s : State) : State :=
  let r := faultedSlot s n cause
  withOutcomes (slotEnding n .failed (some (.fault cause)))
    (withCauses ⟨8 + n.val, by omega⟩ (0x10 ||| recordCauses (s.slots.get n).posted r.posted)
      { withdrawn n .slotFault (drainedWindow n) s with slots := s.slots.put n r })

/-- A link loss in EJECTING (R70): the work withdrawn as in a fault, the slot IDENTIFIED, EJECTED raised, FORCED. -/
def ejectionAborted (n : SlotIx) (s : State) : State :=
  let r := { faultedSlot s n .linkLost with state := .identified }
  withOutcomes (slotEnding n .forced none)
    (withCauses ⟨8 + n.val, by omega⟩ (0x04 ||| recordCauses (s.slots.get n).posted r.posted)
      { withdrawn n .slotFault (drainedWindow n) s with slots := s.slots.put n r })

/-- The end of an ejection whose link is QUIESCING (R69). -/
def ejectionEnded (n : SlotIx) (outcome : TicketOutcome) (s : State) : State :=
  withOutcomes (slotEnding n outcome none)
    (withCauses ⟨8 + n.val, by omega⟩ 0x04
      (silent
        { s with
          links := s.links.put n { s.links.get n with state := .down }
          slots := s.slots.put n
            { s.slots.get n with
              state := .identified
              committedUnits := 0
              mainPower := false
              usableTags := none
              powerTimer := none
              quiesceTimer := none } }))

/-- A removal of slot `n` (R53), but for the Identification Controller. -/
def moduleRemoved (n : SlotIx) (s : State) : State :=
  let s1 := withOutcomes (slotEnding n .overtaken none)
    (withCauses ⟨8 + n.val, by omega⟩ 0x08
      { withdrawn n .slotGone (removedWindow n) s with slots := s.slots.put n Slot.reset })
  { s1 with
    sources := s1.sources.put ⟨n.val, by omega⟩ { s1.sources.get ⟨n.val, by omega⟩ with causes := 0 } }

/-- The byte `k` that the part sends to open the transaction of a phase, with the start condition before it: the address
for writing, the offset 0 or 4, the address for reading (R80, R81). -/
def partByte (phase : Phase) (k : Nat) : List BusItem :=
  match k with
  | 0 => [.start, .address 0x5E .write]
  | 1 => [.offset (if phase = .body then 4 else 0)]
  | 2 => [.start, .address 0x5E .read]
  | _ => []

/-- What passes on the identification link before the next byte: the nine pulses of a bus clear, a start condition before
a device address, and nothing before an offset or an image byte (R79, R80, R81). -/
def beforeByte (r : ReadRecord) : List BusItem :=
  if r.phase = .busClear then List.replicate 9 .clockPulse
  else if r.sent = 0 ∨ r.sent = 2 then [.start]
  else []

/-- A removal of slot `n` (R53) with what it does to the Identification Controller: the slot out of the queue (R77), a
read of it abandoned within a byte of a transaction with all it has received, or ended at once with a stop condition
(R86). -/
def removalTaken (n : SlotIx) (place : LinkPlace) (s : State) : State :=
  let t := moduleRemoved n s
  match (s.slots.get n).state, s.ident with
  | .queued, _ => { t with identQueue := s.identQueue.filter (· != n) }
  | .identifying, .reading r =>
    if place.withinByte ∧ r.phase ≠ .busClear then
      { t with ident := .abandoning r, out := { t.out with ident := beforeByte r } }
    else servingNext { t with out := { t.out with ident := (beforeByte r).take place.passed.val ++ [.stop] } }
  | .identifying, .retryWait _ _ => servingNext t
  | _, _ => t

/-! ### Host port reset (R153) -/

/-- The references a host port reset takes from a window: one for each entry removed (R42). -/
def removedEntries (s : State) (w : WinIx) : Nat :=
  ((List.finRange 8).flatMap fun n => (s.links.get n).queue).countP fun e => e.window == w && e.hostTag.isSome

/-- The windows after a host port reset: each loses the references of its removed entries (R2, R42). -/
def resetWindows (s : State) : Tbl 64 Window := s.windows.each fun w => releasedWindow (removedEntries s w)

/-- A link tag after a host port reset (R103). -/
def orphanedTag (t : LinkTag) : LinkTag :=
  match t with
  | .inFlight r => if r.hostTag.isSome then .inFlight { r with orphaned := true } else t
  | _ => t

/-- An engine after a host port reset: posted entries stay in their order, tags with a host tag are orphaned. -/
def resetLink (l : Link) : Link :=
  { l with queue := l.queue.filter fun e => e.hostTag.isNone, tags := l.tags.each fun _ => orphanedTag }

/-- A host port reset (R153), before the quiesce test. -/
def hostPortReset (s : State) : State :=
  silent
    { withOutcomes (closeEnding s.windows (resetWindows s)) s with
      hostReset := true
      hostTable := Tbl.fill false
      windows := resetWindows s
      links := s.links.each fun _ => resetLink
      lines := Tbl.fill 0
      engine := { s.engine with state := .idle, results := zeros } }

/-! ### Host requests (R28, R148, R152) -/

/-- The Host Port claims requests and the tag is free. -/
abbrev claiming (s : State) (t : HostTag) : Prop :=
  s.partReset = false ∧ s.hostReset = false ∧ s.hostTable.get t = false

/-- Aperture base (R152). -/
def apertureBase (s : State) : Nat := if s.apStrap then 0x80000000 else 0x40000000

/-- Control block base (R152). -/
def controlBase (s : State) : Nat := 0xF0000000 + s.cbStrap.toNat * 0x1000

/-- The address lies at this aperture offset (R28). -/
abbrev inAperture (s : State) (addr : Word) (offset : Nat) : Prop :=
  addr.toNat = apertureBase s + offset ∧ offset ≤ 0x3FFFFFFF

/-- The address lies at this offset of the control block (R148). -/
abbrev inControlBlock (s : State) (addr : Word) (offset : Nat) : Prop :=
  addr.toNat = controlBase s + offset ∧ offset ≤ 0xFF

/-- Bytes of a size. -/
def bytes : Size → Nat
  | .one => 1
  | .two => 2
  | .four => 4

/-- Source `i` is eligible on line `l`: routed to it, enabled, pending, above every priority in service there (R113). -/
abbrev eligible (s : State) (l : LineIx) (i : Fin 18) : Prop :=
  (s.sources.get i).line = l ∧ (s.sources.get i).enable = true ∧ (s.sources.get i).causes ≠ 0 ∧
    ∀ p : Fin 8, (s.lines.get l).getLsbD p.val = true → p < (s.sources.get i).priority

/-- `p` is the in-service maximum of the set (R112). -/
abbrev maximum (set : Byte) (p : Fin 8) : Prop :=
  set.getLsbD p.val = true ∧ ∀ q : Fin 8, set.getLsbD q.val = true → q ≤ p

/-- The offsets of the control block that a read is answered OK at (R151). -/
def readable : List Nat :=
  [0x00, 0x10, 0x14, 0x18, 0x1C, 0x24, 0x30, 0x34, 0x38, 0x3C, 0x40, 0x44, 0x48, 0x4C, 0x50, 0x54, 0x58, 0x5C, 0x60,
    0x70, 0x74]

/-- The offsets of the control block that a write is answered OK at (R151). -/
def writable : List Nat := [0x10, 0x14, 0x18, 0x1C, 0x20, 0x50, 0x54, 0x58, 0x5C]

/-- The address of the control block word at an offset. -/
def controlWord (s : State) (offset : Nat) : Word := BitVec.ofNat 32 (controlBase s + offset)

/-- The host tag and the address of a host request; none for every other command. -/
def requestOf (s : State) : Instr → Option (HostTag × Word)
  | .apertureAccess t _ addr _ _ => some (t, addr)
  | .controlBlockWrite t addr _ _ => some (t, addr)
  | .commandStatusRead t addr _ => some (t, addr)
  | .ack t l => some (t, controlWord s (0x40 + 4 * l.val))
  | .eos t l _ => some (t, controlWord s (0x50 + 4 * l.val))
  | .cmdOverrun t _ => some (t, controlWord s 0x20)
  | .commandIssue t _ => some (t, controlWord s 0x20)
  | _ => none

/-- The command is a read of the ACK word of line `l` under host tag `t` (R115). -/
def readsAck (s : State) (t : HostTag) (l : LineIx) : Instr → Prop
  | .ack t' l' => t' = t ∧ l' = l
  | .commandStatusRead t' addr size => t' = t ∧ size = .four ∧ inControlBlock s addr (0x40 + 4 * l.val)
  | _ => False

/-- The ACK of line `l` selects source `i`: eligible there, of the highest priority, and the lowest number among several
of that priority (R115). -/
abbrev selected (s : State) (l : LineIx) (i : Fin 18) : Prop :=
  eligible s l i ∧ ∀ j, eligible s l j → (s.sources.get j).priority < (s.sources.get i).priority ∨
    (s.sources.get j).priority = (s.sources.get i).priority ∧ i ≤ j

/-! ### The end of one request (R99, R100) and the quiesce (R68) -/

/-- The quiesce condition of slot `n`, whose QUIESCE has not been sent (R68). -/
abbrev quiesceMet (s : State) (n : SlotIx) : Prop :=
  (s.slots.get n).state = .ejecting ∧ (s.links.get n).state = .up ∧
    (∀ w, (s.windows.get w).ofSlot n = true → (s.windows.get w).refs = 0) ∧
    ∀ k, ((s.links.get n).tags.get k).isInFlight = false

/-- A tag after the quiesce: STALE ones are dropped (R68). -/
def keptAtQuiesce : LinkTag → LinkTag
  | .stale _ => .free
  | t => t

/-- `s` after the quiesce test (R68, R106): when the condition holds, QUIESCE is sent, the link is QUIESCING and the
10 ms quiesce timer runs. -/
def quiesceTested (n : SlotIx) (s : State) : State :=
  if quiesceMet s n then
    { s with
      links := s.links.put n
        { s.links.get n with state := .quiescing, tags := (s.links.get n).tags.each fun _ => keptAtQuiesce }
      slots := s.slots.put n { s.slots.get n with quiesceTimer := some 10000 }
      out := { s.out with packets := s.out.packets.put n (some .quiesce) } }
  else s

/-- The request of tag `k` ends: its reference released with the drain it brings, the tag becoming `tag`, and the host
answered, or a posted failure recorded (R99, R100, R103). -/
def requestEnded (n : SlotIx) (k : TagIx) (r : TagRecord) (tag : LinkTag) (code : RespCode) (data : Option Word)
    (failure : Option PostedCause) (s : State) : State :=
  let windows := s.windows.put r.window (releasedWindow 1 (s.windows.get r.window))
  let base := silent
    { withOutcomes (closeEnding s.windows windows) s with
      windows
      links := s.links.put n { s.links.get n with tags := (s.links.get n).tags.put k tag } }
  match r.hostTag, failure with
  | some t, _ =>
    if r.orphaned then base else responding t code data { base with hostTable := base.hostTable.put t false }
  | none, none => base
  | none, some cause =>
    let record := recorded (s.slots.get n).posted r.window r.addr cause
    withCauses ⟨8 + n.val, by omega⟩ (recordCauses (s.slots.get n).posted record)
      { base with slots := s.slots.put n { s.slots.get n with posted := record } }

/-- Read data on the lanes from the address up (R148). -/
def laneValue (addr : Word) (data : List Byte) : Word :=
  BitVec.ofNat 32 (data.foldr (fun b v => b.toNat + 256 * v) 0 * 256 ^ (addr.toNat % 4))

/-- The completion agrees with the request (R99). -/
abbrev agreeing (r : TagRecord) (status : CplStatus) (data : List Byte) : Prop :=
  match status with
  | .ok => data.length = (match r.op with | .read => bytes r.size | .write => 0)
  | .error => True
  | .unsupported => True
  | .undefined => False

/-! ### The profile image (R83, R157) -/

/-- Image byte `k` as a number. -/
def byteAt (image : List Byte) (k : Nat) : Nat := (image.getD k 0).toNat

/-- Page count of request `j` (R157). -/
def pagesAt (image : List Byte) (j : Nat) : Nat := byteAt image (18 + 8 * j) + 256 * byteAt image (19 + 8 * j) + 1

/-- Module base page of request `j` (R157). -/
def baseAt (image : List Byte) (j : Nat) : Nat :=
  byteAt image (20 + 8 * j) + 256 * byteAt image (21 + 8 * j) + 65536 * byteAt image (22 + 8 * j)
    + 16777216 * byteAt image (23 + 8 * j)

/-- Checks 4 to 9 of an image that holds `count` requests (R83). -/
def imageAccepted (image : List Byte) (count : Nat) : Prop :=
  (image.map BitVec.toNat).sum % 256 = 0 ∧
    ∀ j, j < count → byteAt image (16 + 8 * j) % 16 ≤ 1 ∧ byteAt image (16 + 8 * j) / 32 = 0 ∧
      byteAt image (17 + 8 * j) ≤ 16 ∧ baseAt image j < 1048576 ∧ baseAt image j + pagesAt image j ≤ 1048576

/-- The profile an image of `count` requests gives (R87, R157). -/
def profileAt (image : List Byte) (count : Nat) : Profile where
  vendorCode := BitVec.ofNat 16 (byteAt image 4 + 256 * byteAt image 5)
  moduleKind := BitVec.ofNat 16 (byteAt image 6 + 256 * byteAt image 7)
  revision := image.getD 8 0
  powerUnits := image.getD 9 0
  attentionMask := image.getD 10 0
  hardwareBuild := image.getD 11 0
  serial := BitVec.ofNat 32
    (byteAt image 12 + 256 * byteAt image 13 + 65536 * byteAt image 14 + 16777216 * byteAt image 15)
  requests := (List.range count).map fun j =>
    { kind := if byteAt image (16 + 8 * j) % 16 = 0 then .mem else .reg
      writable := decide (byteAt image (16 + 8 * j) / 16 % 2 = 1)
      alignment := byteAt image (17 + 8 * j)
      pages := pagesAt image j
      base := baseAt image j }

/-- The eight bytes of a request entry (R157). -/
def requestBytes (r : Request) : List Byte :=
  [kindNumber r.kind + 16 * bit r.writable, r.alignment, (r.pages - 1) % 256, (r.pages - 1) / 256, r.base % 256,
    r.base / 256 % 256, r.base / 65536 % 256, r.base / 16777216].map (BitVec.ofNat 8)

/-- The image bytes from offset 4 to the last before the checksum (R157). -/
def profileBytes (p : Profile) : List Byte :=
  ([p.vendorCode.toNat % 256, p.vendorCode.toNat / 256, p.moduleKind.toNat % 256, p.moduleKind.toNat / 256,
      p.revision.toNat, p.powerUnits.toNat, p.attentionMask.toNat, p.hardwareBuild.toNat, p.serial.toNat % 256,
      p.serial.toNat / 256 % 256, p.serial.toNat / 65536 % 256, p.serial.toNat / 16777216].map (BitVec.ofNat 8))
    ++ p.requests.flatMap requestBytes

/-- The header of the image of a profile (R157): version, item count, total length. -/
def headerBytes (p : Profile) : List Byte :=
  [1, p.requests.length, 17 + 8 * p.requests.length, 0].map (BitVec.ofNat 8)

/-- The image of a profile from offset 4 up: its bytes and the checksum (R157). -/
def imageBody (p : Profile) : List Byte :=
  profileBytes p ++ [0 - (headerBytes p ++ profileBytes p).foldl (· + ·) 0]

/-- The image bytes of a run. -/
def imageBytes (run : List Transfer) : List Byte :=
  run.filterMap fun x => match x with | .received b => some b | .acknowledged => none

/-- The read in progress after a run of bytes of a transaction that ends with the image byte that makes `size`: bytes
received rises by 1 for each image byte (R80), which comes after the part's three bytes; a run without one acknowledges
bytes of the part's. -/
def readOn (size : Nat) (r : ReadRecord) (run : List Transfer) : ReadRecord :=
  { r with
    sent := if imageBytes run = [] then min 3 (r.sent + run.length) else 3
    bytes := r.bytes ++ (imageBytes run).take (size - r.bytes.length) }

/-- What that run shows on the link: the bytes of the part's acknowledged, then the image bytes, each acknowledged but the
last of the transaction (R80, R81). -/
def passing (size : Nat) (r : ReadRecord) (run : List Transfer) : List BusItem :=
  let left := size - r.bytes.length
  (List.range' r.sent ((readOn size r run).sent - r.sent)).flatMap (partByte r.phase)
    ++ ((imageBytes run).take left).zipIdx.map fun b => .received b.1 (decide (b.2 + 1 < left))

/-- `s` with these items on the identification link as the step's only output. -/
def onLink (items : List BusItem) (s : State) : State := { s with out := { Outputs.nothing with ident := items } }

end Sys2Proof.Expected
end

