-- ==== Sys2Proof/WellFormed.lean ====
section
/-! DEFINITION. Which commands can reach the part at all. The types of `Instr` already hold most bounds; what is left
are the address ranges a row's request can lie in and the data lengths a COMPLETION can carry. -/

namespace Sys2Proof

/-- The address lies in one of the two aperture ranges the strap can select (R28). -/
def inSomeAperture (a : Word) : Bool :=
  decide (0x40000000 ≤ a.toNat ∧ a.toNat ≤ 0xBFFFFFFF)

/-- The address lies in one of the four control block ranges the straps can select (R152). -/
def inSomeControlBlock (a : Word) : Bool :=
  decide (0xF0000000 ≤ a.toNat ∧ a.toNat ≤ 0xF00030FF ∧ a.toNat % 0x1000 ≤ 0xFF)

/-- Data lengths of a COMPLETION packet: 0, 1, 2 or 4 bytes (R92). -/
def completionLength (data : List Byte) : Bool :=
  data.length == 0 || data.length == 1 || data.length == 2 || data.length == 4

/-- The bytes of a body transaction one command can bring: at least one, and no more than the three that open it and the
61 of the longest body (R81). -/
def bodyRun (run : List Transfer) : Bool := decide (1 ≤ run.length ∧ run.length ≤ 64)

/-- The commands that can reach the part. -/
def Instr.wellFormed : Instr → Bool
  | .apertureAccess _ _ addr _ _ => inSomeAperture addr
  | .controlBlockWrite _ addr _ _ => inSomeControlBlock addr
  | .commandStatusRead _ addr _ => inSomeControlBlock addr
  | .ack _ _ => true
  | .eos _ _ _ => true
  | .cmdOverrun _ _ => true
  | .nop => true
  | .winStage => true
  | .winOpen => true
  | .winClose => true
  | .winRelease => true
  | .winRead => true
  | .winLookup => true
  | .slotRead => true
  | .profileRead => true
  | .slotAdmit => true
  | .slotEject => true
  | .slotRecover => true
  | .slotClearPosted => true
  | .srcRoute => true
  | .srcRead => true
  | .ticketRead => true
  | .ticketCollect => true
  | .partConfig => true
  | .partConfigRead => true
  | .partReset => true
  | .partResetEnd _ _ => true
  | .hostPortReset => true
  | .hostPortResetRelease => true
  | .presenceAsserted _ => true
  | .presenceDeasserted _ => true
  | .settleTimerExpiry _ => true
  | .removalFilterExpiry _ _ => true
  | .powerGoodAsserted _ => true
  | .powerGoodLoss _ => true
  | .qualificationExpiry _ => true
  | .powerTimerExpiry _ => true
  | .trainingTimerExpiry _ => true
  | .ready _ _ => true
  | .sendRequest _ => true
  | .completion _ _ _ data => completionLength data
  | .completionTimerExpiry _ _ => true
  | .quarantineTimerExpiry _ _ => true
  | .attention _ _ => true
  | .ejectRequest _ => true
  | .quiesced _ => true
  | .quiesceTimerExpiry _ => true
  | .unknownPacketKind _ => true
  | .packetCheckFailure _ => true
  | .linkLoss _ => true
  | .busClear _ => true
  | .headerTransaction _ _ _ _ => true
  | .bodyTransaction run => bodyRun run
  | .attemptFails => true
  | .retryTimerExpiry => true
  | .abandonedByteEnd => true
  | .commandIssue _ _ => true
  | .badCommand => true

end Sys2Proof
end

