-- ==== Sys2Proof/Certificates/Slice0/Obligations.lean ====
section
/-! DEFINITION. The statements for the provers. Each docstring names the rule a statement formalises. -/

open Sys2Proof Sys2Proof.Machine Sys2Proof.Expected

/-! ### The step, the resets, the invariant -/

/-- A step with command `c` at the front of the queue is `exec c` on the state with the queue's rest (the row's law for
a block); on an empty queue the part idles (the model's choice, log 2). -/
def Obligations.StepTakesFrontCommand : Prop :=
  (∀ (s : State) (c : Instr) (rest : List Instr),
    step { s with pending := c :: rest } = exec c { s with pending := rest }) ∧
  ∀ s : State, s.pending = [] → step s = .next s

/-- The state right after reset meets `Safe`. That the state after reset is the one right after part reset ended, with no
module seated, is the model's choice (log 6). -/
def Obligations.ResetStateIsSafe : Prop := Safe State.reset

/-- `Safe` is kept by every step, whatever command stands at the front of the queue (R9, R10, R12, R18, R25, R38, R50,
R55, R75, R90, R97, R142, R149, R158). -/
def Obligations.StepKeepsSafe : Prop :=
  ∀ s t : State, Safe s → step s = .next t → Safe t

/-- Every step keeps slots, links, the Identification Queue, timers and the power account in agreement: R75's and R90's
tables, R50's and R55's "exactly when", the budget never exceeded, and every record at its reset value while part reset
is in force (R158). -/
def Obligations.StepKeepsSlotsAgreed : Prop :=
  ∀ s t : State, Safe s → step s = .next t →
    LifecycleHeld t ∧ ResetHeld t ∧ PowerHeld t ∧ TimersHeld t ∧ RangesHeld t

/-- Every step keeps the counts of accesses: references equal queue entries plus IN_FLIGHT tags (R18), queues and tags
within their limits and empty where the rules say so (R38, R97), and each host tag IN_FLIGHT exactly while one answer is
owed (R149). -/
def Obligations.StepKeepsAccessesCounted : Prop :=
  ∀ s t : State, Safe s → step s = .next t → ReferencesHeld t ∧ QueuesHeld t ∧ HostTagsHeld t

/-- PART_RESET takes every router record to the values of R123: cause sets empty, sources disabled on line 0 with
priority 0, in-service sets empty, every line deasserted. -/
def Obligations.PartResetClearsRouter : Prop :=
  ∀ s : State, ∃ t, exec .partReset s = .next t ∧
    (∀ i, t.sources.get i = { causes := 0, enable := false, line := 0, priority := 0 }) ∧
    (∀ l, t.lines.get l = 0) ∧ ∀ l, t.lineAsserted l = false

/-- PART_RESET takes every other record to the value its chapter gives (R2, R50, R75, R78, R109, R125, R135, R139, R149),
leaves every transmitter idle and the identification link released with no slot connected (R78, R90), and keeps the input
levels, the sampled straps (R152) and the queue of commands (the model's choice, log 6); while part reset is in force
nothing but the levels and the end of reset changes a record (R158). -/
def Obligations.PartResetHoldsRecords : Prop :=
  (∀ s : State, ∃ t, exec .partReset s = .next t ∧ t.partReset = true ∧
    (∀ w, t.windows.get w = .free) ∧
    (∀ n, t.slots.get n =
      { state := .empty, profile := none, committedUnits := 0, mainPower := false, usableTags := none, posted := none,
        settleTimer := none, removalFilter := none, powerTimer := none, quiesceTimer := none }) ∧
    (∀ n, (t.links.get n).state = .down ∧ (t.links.get n).queue = [] ∧ (t.links.get n).trainingTimer = none ∧
      ∀ k, (t.links.get n).tags.get k = .free) ∧
    (∀ n, t.transmits n = none) ∧ t.identQueue = [] ∧
    (t.ident = .idle ∧ t.ident.select = none ∧ t.ident.released = true) ∧
    (t.engine.state = .idle ∧ t.engine.overrun = false ∧ t.engine.takenCode = 0 ∧
      ∀ k, t.engine.operands.get k = 0 ∧ t.engine.takenOperands.get k = 0 ∧ t.engine.results.get k = 0) ∧
    t.config = { settle := .ms100, power := .ms100, completion := .ms2, clock := .khz100, budget := 0 } ∧
    (∀ k, t.tickets.get k = { sequence := 0, body := .free }) ∧
    (∀ a, t.hostTable.get a = false) ∧
    t.hostReset = s.hostReset ∧ t.apStrap = s.apStrap ∧ t.cbStrap = s.cbStrap ∧ t.presence = s.presence ∧
    t.powerGood = s.powerGood ∧ t.pending = s.pending ∧ t.out = Outputs.nothing) ∧
  ∀ (s : State) (c : Instr), s.partReset = true → c ≠ .partReset → (∀ a b, c ≠ .partResetEnd a b) →
    ∃ t, exec c s = .next t ∧
      t = { s with hostReset := t.hostReset, presence := t.presence, powerGood := t.powerGood, out := Outputs.nothing }

/-- PART_RESET_END samples the straps (R152, R158), and each slot whose presence input is asserted begins SETTLING with
the settle time of the configuration record (R50, R51, R135); no other record changes. That the sampled straps are
operands, and that the presence levels are held during part reset, are the model's choices (log 6). -/
def Obligations.PartResetEndSamplesInputs : Prop :=
  ∀ (s : State) (apsel : Bool) (cbsel : BitVec 2), s.partReset = true → ∃ t,
    exec (.partResetEnd apsel cbsel) s = .next t ∧
    (∀ n, t.slots.get n =
      if s.presence.get n then
        { s.slots.get n with state := .settling, settleTimer := some (settleDuration s.config.settle) }
      else s.slots.get n) ∧
    t = { s with
          partReset := false, apStrap := apsel, cbStrap := cbsel, slots := t.slots, out := Outputs.nothing }

/-! ### Host requests -/

/-- The Aperture Decoder's checks in order (R29), with the misalignment of R30, the lookup results of R31, the rights
table of R32 and the full queue of R33: the first check that fails gives the response in the same step, the host tag is
free, and nothing else changes. -/
def Obligations.RefusedAccessAnswersOnly : Prop :=
  ∀ (s : State) (tag : HostTag) (op : Op) (addr : Word) (size : Size) (data : Word) (offset : Nat),
    claiming s tag → inAperture s addr offset →
    (addr.toNat % bytes size ≠ 0 →
      exec (.apertureAccess tag op addr size data) s = .next (responding tag .misaligned none s)) ∧
    (addr.toNat % bytes size = 0 →
      ((∀ u, (s.windows.get u).covers (offset / 4096) = false) →
        exec (.apertureAccess tag op addr size data) s = .next (responding tag .noWindow none s)) ∧
      ∀ w, coveredBy s (offset / 4096) w →
        ((∀ m refs, s.windows.get w ≠ .opened m refs) →
          exec (.apertureAccess tag op addr size data) s = .next (responding tag .windowClosed none s)) ∧
        ∀ m refs, s.windows.get w = .opened m refs →
          (m.rights = .read ∧ op = .write ∨ m.rights = .write ∧ op = .read →
            exec (.apertureAccess tag op addr size data) s = .next (responding tag .denied none s)) ∧
          (¬(m.rights = .read ∧ op = .write ∨ m.rights = .write ∧ op = .read) →
            16 ≤ (s.links.get m.slot).queue.length →
            exec (.apertureAccess tag op addr size data) s = .next (responding tag .retry none s)))

/-- Acceptance (R34, with R4, R35 and R37): the reference rises by 1, one entry with the translated address is appended at
the tail, a write through a MEM window is answered OK with its tag freed, and every other access leaves its tag in
flight. Which bits of the data word make up byte lane k is the model's reading (log 9). -/
def Obligations.AcceptedAccessQueuesEntry : Prop :=
  ∀ (s : State) (tag : HostTag) (op : Op) (addr : Word) (size : Size) (data : Word) (offset : Nat) (w : WinIx)
    (m : Mapping) (refs : Nat),
    claiming s tag → inAperture s addr offset → addr.toNat % bytes size = 0 → coveredBy s (offset / 4096) w →
    s.windows.get w = .opened m refs → ¬(m.rights = .read ∧ op = .write ∨ m.rights = .write ∧ op = .read) →
    (s.links.get m.slot).queue.length < 16 →
    let isPosted : Bool := m.kind == .mem && op == .write
    let entry : Entry :=
      { window := w
        op
        addr := BitVec.ofNat 32 (m.moduleBase * 4096 + offset - m.base * 4096)
        size
        data := if op = .write then
            (List.range (bytes size)).map fun i => (data >>> (8 * (addr.toNat % 4 + i))).setWidth 8
          else []
        hostTag := if isPosted then none else some tag }
    let accepted : State :=
      { s with
        windows := s.windows.put w (.opened m (refs + 1))
        links := s.links.put m.slot
          { s.links.get m.slot with queue := (s.links.get m.slot).queue ++ [entry] }
        hostTable := s.hostTable.put tag (!isPosted) }
    exec (.apertureAccess tag op addr size data) s =
      .next (if isPosted then responding tag .ok none accepted else silent accepted)

/-- A claimed request whose host tag is IN_FLIGHT is discarded: no response, no decode, no control block effect, the
entry as it was, HOST_TAG_REUSE added to PART (R150). -/
def Obligations.ReusedTagDiscardsRequest : Prop :=
  ∀ (s : State) (c : Instr) (tag : HostTag) (addr : Word) (offset : Nat),
    requestOf s c = some (tag, addr) → s.partReset = false → s.hostReset = false → s.hostTable.get tag = true →
    inAperture s addr offset ∨ inControlBlock s addr offset →
    exec c s = .next (withCauses 17 0x01 (silent s))

/-- A request outside both ranges, or while the host bus reset line is asserted, is not claimed: no response, no record
changed (R148, R153). -/
def Obligations.UnclaimedRequestChangesNothing : Prop :=
  ∀ (s : State) (c : Instr) (tag : HostTag) (addr : Word),
    requestOf s c = some (tag, addr) → s.partReset = false →
    s.hostReset = true ∨ (∀ offset, ¬inAperture s addr offset ∧ ¬inControlBlock s addr offset) →
    exec c s = .next (silent s)

/-- Every control block access that is not of size 4 at a multiple of 4, meets no word, or meets a word that does not
allow it is answered DENIED and changes nothing (R151). -/
def Obligations.DeniedBlockAccessAnswersOnly : Prop :=
  ∀ (s : State) (tag : HostTag) (addr : Word) (size : Size) (data : Word) (offset : Nat),
    claiming s tag → inControlBlock s addr offset →
    (size ≠ .four ∨ offset ∉ readable →
      exec (.commandStatusRead tag addr size) s = .next (responding tag .denied none s)) ∧
    (size ≠ .four ∨ offset ∉ writable →
      exec (.controlBlockWrite tag addr size data) s = .next (responding tag .denied none s))

/-- The operand words hold what the host last wrote (R126): a write replaces the word in every engine state and nothing
else, a read returns it; both are answered OK. -/
def Obligations.OperandWordsHoldWrites : Prop :=
  ∀ (s : State) (tag : HostTag) (k : Fin 4) (addr data : Word), claiming s tag →
    inControlBlock s addr (0x10 + 4 * k.val) →
    exec (.controlBlockWrite tag addr .four data) s =
      .next (responding tag .ok none
        { s with engine := { s.engine with operands := s.engine.operands.put k data } }) ∧
    exec (.commandStatusRead tag addr .four) s =
      .next (responding tag .ok (some (s.engine.operands.get k)) s)

/-- A read of the command status word returns state, result code and overrun flag, and then clears the overrun flag and
nothing else; a read of a result word returns its value and has no effect; writes of either are answered DENIED and have
no effect (R130, R156). -/
def Obligations.StatusReadClearsOverrun : Prop :=
  ∀ (s : State) (tag : HostTag) (addr : Word), claiming s tag →
    (inControlBlock s addr 0x24 → ∃ v : Word,
      exec (.commandStatusRead tag addr .four) s =
        .next (responding tag .ok (some v) { s with engine := { s.engine with overrun := false } }) ∧
      v.toNat = engineNumber s.engine.state + 65536 * bit s.engine.overrun) ∧
    (∀ k : Fin 4, inControlBlock s addr (0x30 + 4 * k.val) →
      exec (.commandStatusRead tag addr .four) s =
        .next (responding tag .ok (some (s.engine.results.get k)) s)) ∧
    ∀ (data : Word) (size : Size) (offset : Nat), offset = 0x24 ∨ (∃ k : Fin 4, offset = 0x30 + 4 * k.val) →
      inControlBlock s addr offset →
      exec (.controlBlockWrite tag addr size data) s = .next (responding tag .denied none s)

/-- The other words a read returns, each as the records stand and none of them changed (R119, R151, R152, R156):
identification, the EOS word as the in-service set, the line summary with assertion (R113) and in-service maximum, the
slot summary, the power account (R55). -/
def Obligations.SummaryWordsShowRecords : Prop :=
  ∀ (s : State) (tag : HostTag) (addr : Word), claiming s tag →
    (inControlBlock s addr 0x00 → ∃ v : Word,
      exec (.commandStatusRead tag addr .four) s = .next (responding tag .ok (some v) s) ∧
      v.toNat = 0x0864 * 65536 + 0x01 * 256 + 2 * s.cbStrap.toNat + bit s.apStrap) ∧
    (∀ l : LineIx, inControlBlock s addr (0x50 + 4 * l.val) → ∃ v : Word,
      exec (.commandStatusRead tag addr .four) s = .next (responding tag .ok (some v) s) ∧
      v.toNat = (s.lines.get l).toNat) ∧
    (inControlBlock s addr 0x60 → ∃ v : Word,
      exec (.commandStatusRead tag addr .four) s = .next (responding tag .ok (some v) s) ∧
      ∀ l : LineIx,
        (v.toNat / 2 ^ (8 * l.val + 7) % 2 = 1 ↔ ∃ i, eligible s l i) ∧
        (s.lines.get l = 0 → v.toNat / 2 ^ (8 * l.val) % 128 = 0) ∧
        ∀ p, maximum (s.lines.get l) p → v.toNat / 2 ^ (8 * l.val) % 128 = 8 + p.val) ∧
    (inControlBlock s addr 0x70 → ∃ v : Word,
      exec (.commandStatusRead tag addr .four) s = .next (responding tag .ok (some v) s) ∧
      ∀ n : SlotIx, v.toNat / 2 ^ (4 * n.val) % 16 = slotStateNumber (s.slots.get n).state) ∧
    (inControlBlock s addr 0x74 → s.config.budget ≤ 4000 → ∃ v : Word,
      exec (.commandStatusRead tag addr .four) s = .next (responding tag .ok (some v) s) ∧
      v.toNat = s.committed + 65536 * s.config.budget)

/-- A write of the command code word in IDLE or DONE issues the command (R127): code and operand words copied, result
code none, result words 0, EXECUTING, the overrun flag kept, answered OK. -/
def Obligations.CodeWriteIssuesCommand : Prop :=
  ∀ (s : State) (tag : HostTag) (code : Word), claiming s tag → s.engine.state ≠ .executing →
    exec (.commandIssue tag code) s =
      .next (responding tag .ok none
        { s with
          engine :=
            { s.engine with
              state := .executing
              takenCode := code
              takenOperands := s.engine.operands
              results := zeros } })

/-- A write of the command code word while EXECUTING is not taken: the overrun flag is set, CMD_OVERRUN is added to PART,
the write is answered OK, and the command in execution goes on unchanged (R128). -/
def Obligations.CodeWriteOverrun : Prop :=
  ∀ (s : State) (tag : HostTag) (code : Word), claiming s tag → s.engine.state = .executing →
    exec (.cmdOverrun tag code) s =
      .next (responding tag .ok none
        (withCauses 17 0x04 { s with engine := { s.engine with overrun := true } }))

/-- ACK selects, among the sources eligible on the line, the highest priority and among several the lowest number; it
returns and empties the cause set and adds the priority, above every one already there, to the in-service set. With none
eligible it returns NONE and changes nothing (R115, R112, R156). -/
def Obligations.AckTakesHighestSource : Prop :=
  ∀ (s : State) (tag : HostTag) (l : LineIx), claiming s tag →
    (∀ i, selected s l i →
      exec (.ack tag l) s =
        .next (responding tag .ok (some (BitVec.ofNat 32 (i.val + 256 * (s.sources.get i).causes.toNat)))
          { s with
            sources := s.sources.put i { s.sources.get i with causes := 0 }
            lines := s.lines.put l ((s.lines.get l) ||| (1#8 <<< (s.sources.get i).priority.val)) })) ∧
    ((∀ i, ¬eligible s l i) →
      exec (.ack tag l) s = .next (responding tag .ok (some 0x80000000) s))

/-- EOS removes the greatest priority of the line's in-service set and nothing else; on an empty set it adds SPURIOUS_EOS
to PART. The value written is ignored, and the write is answered OK (R117, R118). -/
def Obligations.EosEndsInnermostService : Prop :=
  ∀ (s : State) (tag : HostTag) (l : LineIx) (value : Word), claiming s tag →
    (∀ p, maximum (s.lines.get l) p →
      exec (.eos tag l value) s =
        .next (responding tag .ok none
          { s with lines := s.lines.put l ((s.lines.get l) &&& ~~~(1#8 <<< p.val)) })) ∧
    (s.lines.get l = 0 →
      exec (.eos tag l value) s = .next (responding tag .ok none (withCauses 17 0x02 s)))

/-- Every cause in a cause set stays there through every step but the three that R111 names: a claimed ACK, under a host
tag that is free, that selects the source (R115); the removal of the slot's module for MODULE(n); and part reset. -/
def Obligations.CausesStayUntilTaken : Prop :=
  ∀ (s t : State) (c : Instr) (i : Fin 18) (k : Nat), c.wellFormed = true → exec c s = .next t →
    (s.sources.get i).causes.getLsbD k = true →
    (t.sources.get i).causes.getLsbD k = true ∨ c = .partReset ∨
      (∃ (n : SlotIx) (place : LinkPlace), c = .removalFilterExpiry n place ∧ i.val = n.val) ∨
      ∃ tag l, readsAck s tag l c ∧ claiming s tag ∧ selected s l i

/-! ### Commands -/

/-- The common checks (R132): an undefined code completes with BAD_COMMAND; a command whose operands are out of range, or
whose unassigned bits are set, completes with BAD_OPERAND; neither has another effect. A command that passes them is
refused with BAD_OPERAND only by a check of its own, which WIN_STAGE and PROFILE_READ alone have. -/
def Obligations.CommonChecksRefuse : Prop :=
  (∀ s : State, s.partReset = false → s.engine.state = .executing → s.engine.takenCode.toNat ∉ definedCodes →
    exec .badCommand s = .next (completed .badCommand zeros s)) ∧
  (∀ (c : Command) (s : State), executing (commandNumber c) s → operandsPass c s.engine.takenOperands = false →
    exec (completion c) s = .next (completed .badOperand zeros s)) ∧
  ∀ (c : Command) (s t : State), executing (commandNumber c) s → operandsPass c s.engine.takenOperands = true →
    exec (completion c) s = .next t → t.engine.state = .finished .badOperand → c = .winStage ∨ c = .profileRead

/-- A command that is refused completes with one of its own result codes, its result words 0 and CMD_DONE raised, and
changes no other record; a command that succeeds completes with OK, or ACCEPTED if deferred (R133, R129). -/
def Obligations.RefusedCommandChangesNothing : Prop :=
  ∀ (c : Command) (s : State), executing (commandNumber c) s → ∃ t code, exec (completion c) s = .next t ∧
    t.engine.state = .finished code ∧ (t.sources.get 16).causes.getLsbD 0 = true ∧
    (code = .ok ∧ isDeferred c = false ∨ code = .accepted ∧ isDeferred c = true ∨
      code ∈ refusals c ∧ t = completed code zeros s)

/-- NOP completes with OK and CMD_DONE, whatever its operand words hold, and has no other effect (R134). -/
def Obligations.NopCompletes : Prop :=
  ∀ s : State, executing 0x00 s → exec .nop s = .next (completed .ok zeros s)

/-- WIN_STAGE with a request (R7, R11), its checks in the order of R5: the window takes kind, pages and module base from
the request, the rights the request leaves, and the index R11 chooses. `RangesHeld` is the ranges of R1 and R87. -/
def Obligations.WinStageGrantsRequest : Prop :=
  ∀ (s : State) (named : Option WinIx) (n : SlotIx) (q : Fin 6) (asked : Rights) (kind : Kind) (base : Nat),
    executing 0x01 s → RangesHeld s → operand s 0 (stageWord named n (some q) asked kind) → operand s 1 base →
    base < 262144 →
    ((s.slots.get n).profile = none → exec .winStage s = .next (completed .noProfile zeros s)) ∧
    ∀ p, (s.slots.get n).profile = some p →
      (p.requests.length ≤ q.val → exec .winStage s = .next (completed .badOperand zeros s)) ∧
      ∀ r, p.requests[q.val]? = some r →
        (r.writable = false ∧ asked = .write ∨ 262144 < base + r.pages →
          exec .winStage s = .next (completed .badOperand zeros s)) ∧
        (¬(r.writable = false ∧ asked = .write) → base + r.pages ≤ 262144 →
          (base % 2 ^ r.alignment ≠ 0 → exec .winStage s = .next (completed .alignment zeros s)) ∧
          (base % 2 ^ r.alignment = 0 →
            (requestHeld s n q → exec .winStage s = .next (completed .requestTaken zeros s)) ∧
            (¬requestHeld s n q →
              ((∀ w, ¬stagedAt s named w) →
                exec .winStage s =
                  .next (completed (if named = none then .noFreeWindow else .windowState) zeros s)) ∧
              ∀ w, stagedAt s named w →
                (pagesHeld s base r.pages → exec .winStage s = .next (completed .overlap zeros s)) ∧
                (¬pagesHeld s base r.pages →
                  exec .winStage s =
                    .next (completed .ok (oneWord w.val)
                      { s with
                        windows := s.windows.put w
                          (.staged
                            { slot := n
                              request := some q
                              kind := r.kind
                              rights := if r.writable then asked else .read
                              base
                              pages := r.pages
                              moduleBase := r.base }) })))))

/-- WIN_STAGE without a request (R8, R11), its checks in the order of R5: kind, pages, module base and rights from the
operands, the request field absent, no alignment or grant check. `RangesHeld` is the ranges of R1 and R87. -/
def Obligations.WinStageHostDefined : Prop :=
  ∀ (s : State) (named : Option WinIx) (n : SlotIx) (asked : Rights) (kind : Kind) (base pages moduleBase : Nat),
    executing 0x01 s → RangesHeld s → operand s 0 (stageWord named n none asked kind) → operand s 1 base →
    operand s 2 pages → operand s 3 moduleBase → base < 262144 → pages < 131072 → moduleBase < 1048576 →
    ((s.slots.get n).profile = none → exec .winStage s = .next (completed .noProfile zeros s)) ∧
    ((s.slots.get n).profile ≠ none →
      (pages = 0 ∨ 65536 < pages ∨ 262144 < base + pages ∨ 1048576 < moduleBase + pages →
        exec .winStage s = .next (completed .badOperand zeros s)) ∧
      (1 ≤ pages → pages ≤ 65536 → base + pages ≤ 262144 → moduleBase + pages ≤ 1048576 →
        ((∀ w, ¬stagedAt s named w) →
          exec .winStage s = .next (completed (if named = none then .noFreeWindow else .windowState) zeros s)) ∧
        ∀ w, stagedAt s named w →
          (pagesHeld s base pages → exec .winStage s = .next (completed .overlap zeros s)) ∧
          (¬pagesHeld s base pages →
            exec .winStage s =
              .next (completed .ok (oneWord w.val)
                { s with
                  windows := s.windows.put w
                    (.staged { slot := n, request := none, kind, rights := asked, base, pages, moduleBase }) }))))

/-- WIN_OPEN (R12): a window not STAGED refuses with WINDOW_STATE, one whose slot is not ACTIVE with SLOT_STATE, else the
state alone becomes OPEN. -/
def Obligations.WinOpenOpensStaged : Prop :=
  ∀ (s : State) (w : WinIx), executing 0x02 s → operand s 0 w.val →
    ((∀ m, s.windows.get w ≠ .staged m) → exec .winOpen s = .next (completed .windowState zeros s)) ∧
    ∀ m, s.windows.get w = .staged m →
      ((s.slots.get m.slot).state ≠ .active → exec .winOpen s = .next (completed .slotState zeros s)) ∧
      ((s.slots.get m.slot).state = .active →
        exec .winOpen s = .next (completed .ok zeros { s with windows := s.windows.put w (.opened m 0) }))

/-- WIN_CLOSE (R14), its checks in order; the window becomes CLOSING with TO_STAGED and the new ticket's id, or drains at
once to STAGED with its ticket DONE, SUCCESS and STAGED, when it has no references. -/
def Obligations.WinCloseOpensTicket : Prop :=
  ∀ (s : State) (w : WinIx), executing 0x03 s → operand s 0 w.val →
    (ticketOpen s (.close w) → exec .winClose s = .next (completed .targetBusy zeros s)) ∧
    (¬ticketOpen s (.close w) →
      ((∀ m refs, s.windows.get w ≠ .opened m refs) →
        exec .winClose s = .next (completed .windowState zeros s)) ∧
      ∀ m refs, s.windows.get w = .opened m refs →
        (noTicketFree s → exec .winClose s = .next (completed .noTicket zeros s)) ∧
        ∀ k, lowestFree s k →
          (refs ≠ 0 →
            exec .winClose s =
              .next (completed .accepted (oneWord (nextId s k))
                { allocated k (.close w) s with
                  windows := s.windows.put w (.closing m refs .toStaged (some (nextId s k))) })) ∧
          (refs = 0 →
            exec .winClose s =
              .next (withCauses 16 0x02 (completed .accepted (oneWord (nextId s k))
                { s with
                  windows := s.windows.put w (.staged m)
                  tickets := s.tickets.put k
                    { sequence := (s.tickets.get k).sequence + 1
                      body := .finished (.close w) .success (some .staged) } }))))

/-- WIN_RELEASE (R16): STAGED becomes FREE, CLOSING takes disposition TO_FREE and keeps every other field, FREE and OPEN
refuse with WINDOW_STATE. -/
def Obligations.WinReleaseByState : Prop :=
  ∀ (s : State) (w : WinIx), executing 0x04 s → operand s 0 w.val →
    (s.windows.get w = .free ∨ (∃ m refs, s.windows.get w = .opened m refs) →
      exec .winRelease s = .next (completed .windowState zeros s)) ∧
    (∀ m, s.windows.get w = .staged m →
      exec .winRelease s = .next (completed .ok zeros { s with windows := s.windows.put w .free })) ∧
    ∀ m refs d ticket, s.windows.get w = .closing m refs d ticket →
      exec .winRelease s =
        .next (completed .ok zeros { s with windows := s.windows.put w (.closing m refs .toFree ticket) })

/-- WIN_READ (R26, R155) returns the whole record and changes none: each field at its place, absent ones 0. The premise
keeps the fields within the ranges of R1. -/
def Obligations.WinReadReturnsRecord : Prop :=
  ∀ (s : State) (w : WinIx), executing 0x05 s → operand s 0 w.val →
    (∀ m, (s.windows.get w).mapping = some m → m.inRange = true) → (s.windows.get w).refs ≤ 24 →
    (∀ id, (s.windows.get w).closeTicket = some id → id < 256) →
    ∃ results, exec .winRead s = .next (completed .ok results s) ∧
      match s.windows.get w with
      | .free => reads results 0 0 ∧ reads results 1 0 ∧ reads results 2 0 ∧ reads results 3 0
      | .staged m => reads results 0 (1 + mappingNumber m) ∧ reads results 1 m.base ∧ reads results 2 m.pages ∧
          reads results 3 m.moduleBase
      | .opened m refs => reads results 0 (2 + mappingNumber m + 2 ^ 24 * refs) ∧ reads results 1 m.base ∧
          reads results 2 m.pages ∧ reads results 3 m.moduleBase
      | .closing m refs d ticket => reads results 0 (3 + mappingNumber m + 2 ^ 24 * refs) ∧
          reads results 1 (m.base + ticket.elim 0 fun id => 2 ^ 23 + 2 ^ 24 * id) ∧
          reads results 2 (m.pages + 2 ^ 24 + 2 ^ 25 * (match d with | .toStaged => 0 | .toFree => 1)) ∧
          reads results 3 m.moduleBase

/-- WIN_LOOKUP (R27) returns the index and state of the window that covers the page, or NONE, and changes no record. -/
def Obligations.WinLookupFindsCover : Prop :=
  ∀ (s : State) (page : Nat), executing 0x06 s → operand s 0 page → page < 262144 →
    (∀ w, coveredBy s page w →
      exec .winLookup s = .next (completed .ok (oneWord (w.val + 256 * windowNumber (s.windows.get w))) s)) ∧
    ((∀ w, (s.windows.get w).covers page = false) →
      exec .winLookup s = .next (completed .ok (oneWord (2 ^ 31)) s))

/-- SLOT_READ (R72, R155) returns the summary of the slot record and the id of the slot's OPEN ticket, and changes no
record. The premises keep the fields within the ranges of R50 and R87. -/
def Obligations.SlotReadReturnsRecord : Prop :=
  ∀ (s : State) (n : SlotIx) (ticket : Option (Fin 8)), executing 0x10 s → operand s 0 n.val →
    (∀ p, (s.slots.get n).profile = some p → p.requests.length ≤ 6) → (s.slots.get n).usableTags.getD 0 ≤ 8 →
    (∀ k, (s.tickets.get k).openFor (TicketOp.onSlot n) = true ↔ ticket = some k) →
    ∃ results, exec .slotRead s = .next (completed .ok results s) ∧
      reads results 0 (slotStateNumber (s.slots.get n).state + 16 * (s.slots.get n).state.faultCause.elim 0 faultNumber
        + ((s.slots.get n).profile.elim 0 fun p => 256 + 512 * p.requests.length + 65536 * p.powerUnits.toNat)
        + 2 ^ 24 * (s.slots.get n).committedUnits.toNat) ∧
      reads results 1 ((s.slots.get n).usableTags.getD 0
        + ticket.elim 0 fun k => 256 + 65536 * ((s.tickets.get k).sequence.val * 8 + k.val)) ∧
      reads results 2 ((s.slots.get n).posted.elim 0 fun f =>
        2 ^ 31 + 2 ^ 30 * bit f.more + 2 ^ 28 * postedNumber f.cause + f.window.val) ∧
      reads results 3 ((s.slots.get n).posted.elim 0 fun f => f.addr.toNat)

/-- PROFILE_READ (R89, R155): NO_PROFILE, then BAD_OPERAND for an item beyond the requests, else the identity fields or
one request with its grant; no record changes. -/
def Obligations.ProfileReadReturnsItem : Prop :=
  ∀ (s : State) (n : SlotIx) (item : Fin 7), executing 0x11 s → operand s 0 (n.val + 256 * item.val) →
    ((s.slots.get n).profile = none → exec .profileRead s = .next (completed .noProfile zeros s)) ∧
    ∀ p, (s.slots.get n).profile = some p → p.inRange = true →
      (p.requests.length < item.val → exec .profileRead s = .next (completed .badOperand zeros s)) ∧
      (item.val = 0 → ∃ results, exec .profileRead s = .next (completed .ok results s) ∧
        reads results 0 (p.vendorCode.toNat + 65536 * p.moduleKind.toNat) ∧
        reads results 1 (p.revision.toNat + 256 * p.powerUnits.toNat + 65536 * p.attentionMask.toNat
          + 2 ^ 24 * p.hardwareBuild.toNat) ∧
        reads results 2 p.serial.toNat ∧ reads results 3 p.requests.length) ∧
      ∀ (q : Fin 6) (r : Request) (grant : Option WinIx), item.val = q.val + 1 → p.requests[q.val]? = some r →
        (∀ w, (s.windows.get w).grants n q = true ↔ grant = some w) →
        ∃ results, exec .profileRead s = .next (completed .ok results s) ∧
          reads results 0 (q.val + 16 * kindNumber r.kind + 32 * bit r.writable + 256 * r.alignment
            + grant.elim 0 fun w => 2 ^ 15 + 65536 * w.val) ∧
          reads results 1 r.pages ∧ reads results 2 r.base ∧ reads results 3 0

/-- SLOT_ADMIT (R57), its checks in order; the slot commits its profile's units, main power goes on, and it is POWERING
with the power timer. Power good already present counts as its first assertion (R58): the timer then qualifies it. -/
def Obligations.SlotAdmitPowersModule : Prop :=
  ∀ (s : State) (n : SlotIx), executing 0x12 s → operand s 0 n.val →
    (slotBusy s n → exec .slotAdmit s = .next (completed .targetBusy zeros s)) ∧
    (¬slotBusy s n →
      ((s.slots.get n).state ≠ .identified → exec .slotAdmit s = .next (completed .slotState zeros s)) ∧
      ∀ p, (s.slots.get n).state = .identified → (s.slots.get n).profile = some p →
        (s.config.budget < s.committed + p.powerUnits.toNat →
          exec .slotAdmit s = .next (completed .noPower zeros s)) ∧
        (s.committed + p.powerUnits.toNat ≤ s.config.budget →
          (noTicketFree s → exec .slotAdmit s = .next (completed .noTicket zeros s)) ∧
          ∀ k, lowestFree s k →
            exec .slotAdmit s =
              .next (completed .accepted (oneWord (nextId s k))
                { allocated k (.admission n) s with
                  slots := s.slots.put n
                    { s.slots.get n with
                      state := .powering
                      committedUnits := p.powerUnits
                      mainPower := true
                      powerTimer := some
                        (if s.powerGood.get n then .qualifying 1000
                          else .waiting (powerDuration s.config.power)) } })))

/-- SLOT_EJECT (R66), its checks in order; the slot is EJECTING, its OPEN windows become CLOSING with TO_STAGED or drain at
once (R21), and the quiesce condition is tested in the step of entry (R68). -/
def Obligations.SlotEjectClosesWindows : Prop :=
  ∀ (s : State) (n : SlotIx), executing 0x13 s → operand s 0 n.val →
    (slotBusy s n → exec .slotEject s = .next (completed .targetBusy zeros s)) ∧
    (¬slotBusy s n →
      ((s.slots.get n).state ≠ .active → exec .slotEject s = .next (completed .slotState zeros s)) ∧
      ((s.slots.get n).state = .active →
        (noTicketFree s → exec .slotEject s = .next (completed .noTicket zeros s)) ∧
        ∀ k, lowestFree s k →
          exec .slotEject s =
            .next (quiesceTested n (completed .accepted (oneWord (nextId s k))
              { allocated k (.ejection n) s with
                slots := s.slots.put n { s.slots.get n with state := .ejecting }
                windows := s.windows.each fun _ x =>
                  match x with
                  | .opened m refs =>
                    if m.slot = n then (if refs = 0 then .staged m else .closing m refs .toStaged none) else x
                  | _ => x }))))

/-- SLOT_RECOVER (R71, R24), its checks in order; the slot's STAGED windows are FREE, its profile and fault cause absent,
the slot QUEUED at the tail of the Identification Queue, or taken into service at once when the controller is IDLE and
the queue empty (R76). -/
def Obligations.SlotRecoverQueuesSlot : Prop :=
  ∀ (s : State) (n : SlotIx), executing 0x14 s → operand s 0 n.val →
    (slotBusy s n → exec .slotRecover s = .next (completed .targetBusy zeros s)) ∧
    (¬slotBusy s n →
      ((s.slots.get n).state ≠ .identified → (∀ cause, (s.slots.get n).state ≠ .faulted cause) →
        exec .slotRecover s = .next (completed .slotState zeros s)) ∧
      ((s.slots.get n).state = .identified ∨ (∃ cause, (s.slots.get n).state = .faulted cause) →
        (noTicketFree s → exec .slotRecover s = .next (completed .noTicket zeros s)) ∧
        ∀ k, lowestFree s k →
          let recovered : State := completed .accepted (oneWord (nextId s k))
            { allocated k (.recovery n) s with
              windows := s.windows.each fun _ x =>
                (match x with | .staged m => if m.slot = n then .free else x | _ => x)
              slots := s.slots.put n { s.slots.get n with state := .queued, profile := none }
              identQueue := s.identQueue ++ [n] }
          (s.ident ≠ .idle → exec .slotRecover s = .next recovered) ∧
          (s.ident = .idle → s.identQueue = [] → exec .slotRecover s = .next (servingNext recovered))))

/-- SLOT_CLEAR_POSTED (R73) makes the posted-failure record absent in every slot state and touches nothing else, the
POSTED_FAILED cause included. -/
def Obligations.SlotClearPostedClears : Prop :=
  ∀ (s : State) (n : SlotIx), executing 0x15 s → operand s 0 n.val →
    exec .slotClearPosted s =
      .next (completed .ok zeros { s with slots := s.slots.put n { s.slots.get n with posted := none } })

/-- SRC_ROUTE (R120): BAD_OPERAND for a source, line or priority out of range; else enable, line and priority take the
operand values together, the cause set is kept, and CMD_DONE is added to COMMAND even when COMMAND is the source
routed. -/
def Obligations.SrcRouteSetsRouting : Prop :=
  ∀ s : State, executing 0x20 s →
    (operandsPass .srcRoute s.engine.takenOperands = false →
      exec .srcRoute s = .next (completed .badOperand zeros s)) ∧
    ∀ (i : Fin 18) (enable : Bool) (line : LineIx) (priority : Fin 8),
      operand s 0 (i.val + 256 * bit enable + 4096 * line.val + 65536 * priority.val) →
      exec .srcRoute s =
        .next (completed .ok zeros
          { s with sources := s.sources.put i { causes := (s.sources.get i).causes, enable, line, priority } })

/-- SRC_READ (R122): BAD_OPERAND for a source out of range; else the source record as it stood, without the CMD_DONE of
this completion, and no record changed. -/
def Obligations.SrcReadReturnsRecord : Prop :=
  ∀ s : State, executing 0x21 s →
    (operandsPass .srcRead s.engine.takenOperands = false →
      exec .srcRead s = .next (completed .badOperand zeros s)) ∧
    ∀ i : Fin 18, operand s 0 i.val →
      exec .srcRead s =
        .next (completed .ok
          (oneWord ((s.sources.get i).causes.toNat + 256 * bit (s.sources.get i).enable
            + 4096 * (s.sources.get i).line.val + 65536 * (s.sources.get i).priority.val)) s)

/-- TICKET_READ (R144): NO_SUCH_TICKET for a FREE record or another current id; else the ticket record, and no record
changed. -/
def Obligations.TicketReadReturnsRecord : Prop :=
  ∀ (s : State) (sequence : Fin 32) (k : Fin 8), executing 0x30 s → operand s 0 (sequence.val * 8 + k.val) →
    ((s.tickets.get k).body = .free ∨ (s.tickets.get k).sequence ≠ sequence →
      exec .ticketRead s = .next (completed .noSuchTicket zeros s)) ∧
    ((s.tickets.get k).sequence = sequence →
      (∀ op, (s.tickets.get k).body = .opened op →
        exec .ticketRead s =
          .next (completed .ok (oneWord (1 + 16 * ticketKindNumber op + 256 * ticketTargetNumber op)) s)) ∧
      ∀ op outcome detail, (s.tickets.get k).body = .finished op outcome detail →
        exec .ticketRead s =
          .next (completed .ok
            (oneWord (2 + 16 * ticketKindNumber op + 256 * ticketTargetNumber op + 65536 * outcomeNumber outcome
              + 2 ^ 24 * detail.elim 0 detailNumber)) s))

/-- TICKET_COLLECT (R145): NO_SUCH_TICKET, then TICKET_OPEN; else the record becomes FREE and keeps its sequence. -/
def Obligations.TicketCollectFreesRecord : Prop :=
  ∀ (s : State) (sequence : Fin 32) (k : Fin 8), executing 0x31 s → operand s 0 (sequence.val * 8 + k.val) →
    ((s.tickets.get k).body = .free ∨ (s.tickets.get k).sequence ≠ sequence →
      exec .ticketCollect s = .next (completed .noSuchTicket zeros s)) ∧
    ((s.tickets.get k).sequence = sequence →
      (∀ op, (s.tickets.get k).body = .opened op →
        exec .ticketCollect s = .next (completed .ticketOpen zeros s)) ∧
      ∀ op outcome detail, (s.tickets.get k).body = .finished op outcome detail →
        exec .ticketCollect s =
          .next (completed .ok zeros { s with tickets := s.tickets.put k { sequence, body := .free } }))

/-- PART_CONFIG (R136): BAD_OPERAND, then BUDGET_IN_USE for a budget below committed; else all five fields at once.
PART_CONFIG_READ (R137) returns the five fields at the places of PART_CONFIG (R155) and changes no record. -/
def Obligations.PartConfigFieldsWrittenAndRead : Prop :=
  ∀ s : State,
    (executing 0x40 s →
      (operandsPass .partConfig s.engine.takenOperands = false →
        exec .partConfig s = .next (completed .badOperand zeros s)) ∧
      ∀ c : PartConfig, c.budget ≤ 4000 →
        operand s 0 (settleNumber c.settle + 16 * powerNumber c.power + 256 * completionNumber c.completion
          + 4096 * clockNumber c.clock) → operand s 1 c.budget →
        (c.budget < s.committed → exec .partConfig s = .next (completed .budgetInUse zeros s)) ∧
        (s.committed ≤ c.budget → exec .partConfig s = .next (completed .ok zeros { s with config := c }))) ∧
    (executing 0x41 s → s.config.budget ≤ 4000 →
      ∃ results, exec .partConfigRead s = .next (completed .ok results s) ∧
        reads results 0 (settleNumber s.config.settle + 16 * powerNumber s.config.power
          + 256 * completionNumber s.config.completion + 4096 * clockNumber s.config.clock) ∧
        reads results 1 s.config.budget ∧ reads results 2 0 ∧ reads results 3 0)

/-! ### Slot events -/

/-- Presence and settle (R51): EMPTY settles with the configured time, SETTLING falls back to EMPTY, its expiry makes the
slot QUEUED at the queue's tail (served at once when the controller is IDLE and the queue empty, R76); a later assertion
only stops the removal filter, which a deassertion starts with 2 ms (R52). -/
def Obligations.PresenceSettlesAndFilters : Prop :=
  ∀ (s : State) (n : SlotIx), s.partReset = false →
    exec (.presenceAsserted n) s =
      .next (silent
        { s with
          presence := s.presence.put n true
          slots := s.slots.put n
            (if (s.slots.get n).state = .empty then
              { s.slots.get n with state := .settling, settleTimer := some (settleDuration s.config.settle) }
            else { s.slots.get n with removalFilter := none }) }) ∧
    exec (.presenceDeasserted n) s =
      .next (silent
        { s with
          presence := s.presence.put n false
          slots := s.slots.put n
            (match (s.slots.get n).state with
            | .empty => s.slots.get n
            | .settling => { s.slots.get n with state := .empty, settleTimer := none }
            | _ => { s.slots.get n with removalFilter := some 2000 }) }) ∧
    ((s.slots.get n).state = .settling → (s.slots.get n).settleTimer ≠ none →
      let queued : State := silent
        { s with
          slots := s.slots.put n { s.slots.get n with state := .queued, settleTimer := none }
          identQueue := s.identQueue ++ [n] }
      (s.ident ≠ .idle → exec (.settleTimerExpiry n) s = .next queued) ∧
      (s.ident = .idle → s.identQueue = [] → exec (.settleTimerExpiry n) s = .next (servingNext queued)))

/-- Power good in POWERING (R58): its first assertion stops the timeout and starts the 1 ms qualification, and the expiry
of that makes the slot LINKING with its link TRAINING under the 20 ms training timer (R59, R94); elsewhere an assertion
changes the level alone, and so does a deassertion in POWERING before power good is seen and in every state but POWERING,
LINKING, ACTIVE and EJECTING. That the level is held is the model's choice (log 6). -/
def Obligations.PowerGoodQualifies : Prop :=
  ∀ (s : State) (n : SlotIx), s.partReset = false →
    exec (.powerGoodAsserted n) s =
      .next (silent
        { s with
          powerGood := s.powerGood.put n true
          slots := s.slots.put n
            (match (s.slots.get n).state, (s.slots.get n).powerTimer with
            | .powering, some (.waiting _) => { s.slots.get n with powerTimer := some (.qualifying 1000) }
            | _, _ => s.slots.get n) }) ∧
    (¬((∃ micros, (s.slots.get n).state = .powering ∧ (s.slots.get n).powerTimer = some (.qualifying micros)) ∨
        (s.slots.get n).state = .linking ∨ (s.slots.get n).state = .active ∨ (s.slots.get n).state = .ejecting) →
      exec (.powerGoodLoss n) s = .next (silent { s with powerGood := s.powerGood.put n false })) ∧
    ∀ micros, (s.slots.get n).state = .powering → (s.slots.get n).powerTimer = some (.qualifying micros) →
      exec (.qualificationExpiry n) s =
        .next
          { s with
            slots := s.slots.put n { s.slots.get n with state := .linking, powerTimer := none }
            links := s.links.put n { s.links.get n with state := .training, trainingTimer := some 20000 }
            out := { Outputs.nothing with packets := Outputs.nothing.packets.put n (some .training) } }

/-- A slot fault (R63) on each of its causes (R58, R59, R95, R101, R107): the Pending Queue and the IN_FLIGHT tags aborted
with SLOT_FAULT, posted ones recorded ABORTED, STALE tags dropped, the windows closed and drained (R22) with their close
tickets, the link DOWN, power off and units returned, the slot FAULTED with its cause raised, its OPEN ticket FAILED, and
nothing else changed. That a power-good loss also moves the held power-good level is the model's choice (log 6). -/
def Obligations.SlotFaultTearsDown : Prop :=
  ∀ (s : State) (n : SlotIx), Safe s → s.partReset = false →
    (∀ micros, (s.slots.get n).state = .powering → (s.slots.get n).powerTimer = some (.waiting micros) →
      exec (.powerTimerExpiry n) s = .next (faultTaken n .powerTimeout s)) ∧
    ((∃ micros, (s.slots.get n).state = .powering ∧ (s.slots.get n).powerTimer = some (.qualifying micros)) ∨
        (s.slots.get n).state = .linking ∨ (s.slots.get n).state = .active ∨ (s.slots.get n).state = .ejecting →
      exec (.powerGoodLoss n) s =
        .next { faultTaken n .powerLost s with powerGood := s.powerGood.put n false }) ∧
    ((s.links.get n).state = .training →
      exec (.trainingTimerExpiry n) s = .next (faultTaken n .linkTimeout s) ∧
      ∀ count : BitVec 4, count.toNat = 0 ∨ 8 < count.toNat →
        exec (.ready n count) s = .next (faultTaken n .linkProtocol s)) ∧
    ((s.slots.get n).state = .active → exec (.linkLoss n) s = .next (faultTaken n .linkLost s)) ∧
    ((s.links.get n).state = .up ∨ (s.links.get n).state = .quiescing →
      exec (.unknownPacketKind n) s = .next (faultTaken n .linkProtocol s) ∧
      ∀ k status data, (s.links.get n).tags.get k = .free ∨
          (∃ r, (s.links.get n).tags.get k = .inFlight r ∧ ¬agreeing r status data) →
        exec (.completion n k status data) s = .next (faultTaken n .linkProtocol s))

/-- A removal (R53) from every state the filter runs in: windows freed (R23), work aborted with SLOT_GONE and nothing
recorded (R41, R108), the slot record as an EMPTY one, MODULE(n) emptied, REMOVED raised, the slot's OPEN ticket
OVERTAKEN, the slot out of the queue (R77) or its read abandoned (R86), and nothing else changed.
That an operand says where the identification link stands is the model's choice (log 5). -/
def Obligations.RemovalEmptiesSlot : Prop :=
  ∀ (s : State) (n : SlotIx) (place : LinkPlace), Safe s → s.partReset = false →
    (s.slots.get n).removalFilter ≠ none →
    exec (.removalFilterExpiry n place) s = .next (removalTaken n place s)

/-- READY with a count of 1 to 8 in TRAINING (R60): usable tags, link UP with its training timer stopped, slot ACTIVE,
ADMITTED raised, the ADMIT ticket SUCCESS. -/
def Obligations.ReadyAdmitsSlot : Prop :=
  ∀ (s : State) (n : SlotIx) (count : BitVec 4), Safe s → s.partReset = false →
    (s.links.get n).state = .training → 1 ≤ count.toNat → count.toNat ≤ 8 →
    exec (.ready n count) s =
      .next (withOutcomes (fun op => if op = .admission n then some (.success, none) else none)
        (withCauses ⟨8 + n.val, by omega⟩ 0x02
          (silent
            { s with
              slots := s.slots.put n { s.slots.get n with state := .active, usableTags := some count.toNat }
              links := s.links.put n { s.links.get n with state := .up, trainingTimer := none } })))

/-! ### The slot link -/

/-- SEND_REQUEST (R98): on an UP link with a waiting entry and fewer tags in use than usable, the head entry leaves the
queue under the lowest FREE tag, its completion timer starts with the configured timeout, and its READ or WRITE packet is
sent; where a condition fails nothing is sent and nothing changes. After every step a transmitter that is DOWN sends
nothing, one that is TRAINING sends training sequences, one that is UP nothing but a READ or a WRITE, one that is
QUIESCING nothing but the QUIESCE of the step (R90, R91). That the part sends in the first step the conditions hold is
left to the queue of events (log 1). -/
def Obligations.SendTakesHeadEntry : Prop :=
  (∀ (s : State) (n : SlotIx), s.partReset = false →
    (∀ e rest usable k, (s.links.get n).state = .up → (s.links.get n).queue = e :: rest →
      (s.slots.get n).usableTags = some usable →
      ((List.finRange 8).countP fun j => (s.links.get n).tags.get j != .free) < usable →
      (s.links.get n).tags.get k = .free → (∀ j, j < k → (s.links.get n).tags.get j ≠ .free) →
      exec (.sendRequest n) s =
        .next
          { s with
            links := s.links.put n
              { s.links.get n with
                queue := rest
                tags := (s.links.get n).tags.put k
                  (.inFlight
                    { window := e.window
                      hostTag := e.hostTag
                      orphaned := false
                      op := e.op
                      addr := e.addr
                      size := e.size
                      timer := completionDuration s.config.completion }) }
            out :=
              { Outputs.nothing with
                packets := Outputs.nothing.packets.put n
                  (some (match e.op with
                    | .read => .read k e.addr e.size
                    | .write => .write k e.addr e.size e.data)) } }) ∧
    ((s.links.get n).state ≠ .up ∨ (s.links.get n).queue = [] ∨
        (∀ usable, (s.slots.get n).usableTags = some usable →
          usable ≤ (List.finRange 8).countP fun j => (s.links.get n).tags.get j != .free) →
      exec (.sendRequest n) s = .next (silent s))) ∧
  ∀ (s t : State) (c : Instr) (n : SlotIx), exec c s = .next t →
    match (t.links.get n).state with
    | .down => t.transmits n = none
    | .training => t.transmits n = some .training
    | .up => t.transmits n = none ∨ (∃ k addr size, t.transmits n = some (.read k addr size)) ∨
        ∃ k addr size data, t.transmits n = some (.write k addr size data)
    | .quiescing => t.transmits n = none ∨ t.transmits n = some .quiesce

/-- A COMPLETION that agrees with its IN_FLIGHT request (R99): the tag FREE, the reference released with the drain it may
bring (R20), the host tag answered OK with the data of a READ or MODULE_ERROR, nothing for an orphaned tag (R103), a
posted failure recorded (R67), then the quiesce test (R68). One for a STALE tag frees it and does nothing else (R100).
Which bits of the data word make up byte lane k is the model's reading (log 9). -/
def Obligations.CompletionFinishesRequest : Prop :=
  ∀ (s : State) (n : SlotIx) (k : TagIx) (status : CplStatus) (data : List Byte) (r : TagRecord), Safe s →
    s.partReset = false →
    ((s.links.get n).tags.get k = .inFlight r → agreeing r status data →
      exec (.completion n k status data) s =
        .next (quiesceTested n (requestEnded n k r .free
          (if status = .ok then .ok else .moduleError)
          (if status = .ok ∧ r.op = .read then some (laneValue r.addr data) else none)
          (if status = .ok then none else some .moduleError) s))) ∧
    ((s.links.get n).tags.get k = .stale r →
      exec (.completion n k status data) s =
        .next (silent
          { s with
            links := s.links.put n { s.links.get n with tags := (s.links.get n).tags.put k .free } }))

/-- The completion timer's expiry (R100): the reference released, the host tag answered TIMEOUT or a posted failure
recorded, nothing for an orphaned tag, the tag STALE with a quarantine of four times its timeout, then the quiesce test
(R68); the quarantine's expiry frees the tag. -/
def Obligations.TimeoutQuarantinesTag : Prop :=
  ∀ (s : State) (n : SlotIx) (k : TagIx) (r : TagRecord), Safe s → s.partReset = false →
    ((s.links.get n).tags.get k = .inFlight r →
      exec (.completionTimerExpiry n k) s =
        .next (quiesceTested n (requestEnded n k r (.stale { r with timer := 4 * r.timer }) .timeout none
          (some .timeout) s))) ∧
    ((s.links.get n).tags.get k = .stale r →
      exec (.quarantineTimerExpiry n k) s =
        .next (silent
          { s with
            links := s.links.put n { s.links.get n with tags := (s.links.get n).tags.put k .free } }))

/-- ATTENTION on a link that is UP or QUIESCING adds the causes within the held mask to MODULE(n), drops the others and
touches nothing else (R88, R104). EJECT_REQUEST adds EJECT_REQUESTED to SLOT(n) while the link is UP and the slot ACTIVE,
and otherwise is discarded; it changes nothing else (R105). -/
def Obligations.ModulePacketsRaiseCauses : Prop :=
  ∀ (s : State) (n : SlotIx), s.partReset = false →
    (∀ (causes : Byte) (p : Profile), (s.links.get n).state = .up ∨ (s.links.get n).state = .quiescing →
      (s.slots.get n).profile = some p →
      exec (.attention n causes) s =
        .next (withCauses ⟨n.val, by omega⟩ (causes &&& p.attentionMask) (silent s))) ∧
    ((s.links.get n).state = .up → (s.slots.get n).state = .active →
      exec (.ejectRequest n) s = .next (withCauses ⟨8 + n.val, by omega⟩ 0x20 (silent s))) ∧
    ((s.links.get n).state ≠ .up ∨ (s.slots.get n).state ≠ .active →
      exec (.ejectRequest n) s = .next (silent s))

/-- A packet whose check fails is discarded whatever the link state (R92); a packet its link state does not take is
discarded (R93); a link loss in DOWN or TRAINING is ignored (R94, R107): no record changes, no cause is raised. -/
def Obligations.DiscardedPacketsChangeNothing : Prop :=
  ∀ (s : State) (n : SlotIx), s.partReset = false →
    exec (.packetCheckFailure n) s = .next (silent s) ∧
    ((s.links.get n).state ≠ .training → ∀ count, exec (.ready n count) s = .next (silent s)) ∧
    ((s.links.get n).state = .down ∨ (s.links.get n).state = .training →
      (∀ k status data, exec (.completion n k status data) s = .next (silent s)) ∧
      (∀ causes, exec (.attention n causes) s = .next (silent s)) ∧
      exec (.unknownPacketKind n) s = .next (silent s) ∧ exec (.linkLoss n) s = .next (silent s)) ∧
    ((s.links.get n).state ≠ .quiescing → exec (.quiesced n) s = .next (silent s))

/-- The end of an ejection (R69): on QUIESCED, or on the quiesce timer's expiry, in QUIESCING: link DOWN, usable tags
absent, power off and units returned, IDENTIFIED, EJECTED raised, the EJECT ticket SUCCESS or FORCED; profile, windows
and posted-failure record kept, every window of the slot STAGED or FREE. -/
def Obligations.QuiesceEndsEjection : Prop :=
  ∀ (s : State) (n : SlotIx), Safe s → s.partReset = false → (s.links.get n).state = .quiescing →
    exec (.quiesced n) s = .next (ejectionEnded n .success s) ∧
    exec (.quiesceTimerExpiry n) s = .next (ejectionEnded n .forced s) ∧
    ∀ w m, (s.windows.get w).mapping = some m → m.slot = n → s.windows.get w = .staged m

/-- A link loss in EJECTING (R70): queued and in-flight work aborted with SLOT_FAULT or recorded ABORTED, CLOSING windows
drained, STALE tags dropped, and the ejection ended FORCED; the slot is IDENTIFIED, not FAULTED. -/
def Obligations.LinkLossForcesEjection : Prop :=
  ∀ (s : State) (n : SlotIx), Safe s → s.partReset = false → (s.slots.get n).state = .ejecting →
    exec (.linkLoss n) s = .next (ejectionAborted n s)

/-! ### Identification -/

/-- The bus clear that frees the data line ends with a stop condition and goes on to the header (R79). In the header
transaction each image byte received is added to the read in progress, and bytes received rises by 1 (R80); with byte 3
and the stop condition, checks 1 to 3 lead to the body or to IDENT_BAD_IMAGE (R83, R84). That one command brings a run of
one to four bytes of the transaction (log 12), and that the number of pulses is an operand (log 13), are the model's
choices. -/
def Obligations.HeaderLeadsToBody : Prop :=
  ∀ (s : State) (r : ReadRecord), Safe s → s.partReset = false → s.ident = .reading r →
    (r.phase = .busClear → ∀ pulses : Fin 10,
      exec (.busClear (some pulses)) s =
        .next (onLink (List.replicate pulses.val .clockPulse ++ [.stop])
          { s with ident := .reading { r with phase := .header } })) ∧
    (r.phase = .header → ∀ (next : Transfer) (second third fourth : Option Transfer),
      let run := next :: (second.toList ++ third.toList ++ fourth.toList)
      ((readOn 4 r run).bytes.length < 4 →
        exec (.headerTransaction next second third fourth) s =
          .next (onLink (passing 4 r run) { s with ident := .reading (readOn 4 r run) })) ∧
      ∀ b0 b1 b2 b3, (readOn 4 r run).bytes = [b0, b1, b2, b3] →
        (b0 = 1 → b1.toNat ≤ 6 → b2.toNat + 256 * b3.toNat = 17 + 8 * b1.toNat →
          exec (.headerTransaction next second third fourth) s =
            .next (onLink (passing 4 r run ++ [.stop])
              { s with
                ident := .reading
                  { r with
                    phase := .body
                    sent := 0
                    bytes := [b0, b1, b2, b3]
                    imageLength := some (17 + 8 * b1.toNat) } })) ∧
        (¬(b0 = 1 ∧ b1.toNat ≤ 6 ∧ b2.toNat + 256 * b3.toNat = 17 + 8 * b1.toNat) →
          exec (.headerTransaction next second third fourth) s =
            .next (readFailed r.slot .identBadImage (onLink (passing 4 r run ++ [.stop]) s))))

/-- In the body transaction each image byte received is added to the read in progress (R78, R81); with the last and the
stop condition the image passes checks 4 to 9 and the slot is IDENTIFIED with the profile of the image, ARRIVED and the
RECOVER ticket SUCCESS (R85, R87), or the read fails with IDENT_BAD_IMAGE (R84). That one command brings a run of bytes
of the transaction is the model's choice (log 12). -/
def Obligations.BodyEndsRead : Prop :=
  ∀ (s : State) (r : ReadRecord) (count : Nat) (run : List Transfer), Safe s → s.partReset = false →
    s.ident = .reading r → r.phase = .body → byteAt r.bytes 1 = count →
    let size := 17 + 8 * count
    let image := (readOn size r run).bytes
    (image.length < size →
      exec (.bodyTransaction run) s =
        .next (onLink (passing size r run) { s with ident := .reading (readOn size r run) })) ∧
    (image.length = size → imageAccepted image count →
      exec (.bodyTransaction run) s =
        .next (readDone r.slot (profileAt image count) (onLink (passing size r run ++ [.stop]) s))) ∧
    (image.length = size → ¬imageAccepted image count →
      exec (.bodyTransaction run) s =
        .next (readFailed r.slot .identBadImage (onLink (passing size r run ++ [.stop]) s)))

/-- Every profile in the ranges of R87 is held exactly as the image R157 lays out for it says: reading what is left of
that image's body, after its header and any number of its body's bytes, gives the slot that profile, whatever follows the
image. That one command brings a run of bytes of the transaction is the model's choice (log 12). -/
def Obligations.ImageGivesBackProfile : Prop :=
  ∀ (s : State) (r : ReadRecord) (p : Profile) (k : Nat) (run : List Transfer) (rest : List Byte), Safe s →
    s.partReset = false → s.ident = .reading r → r.phase = .body → p.inRange = true → k < (imageBody p).length →
    r.bytes = headerBytes p ++ (imageBody p).take k → imageBytes run = (imageBody p).drop k ++ rest →
    ∃ t, exec (.bodyTransaction run) s = .next t ∧
      (t.slots.get r.slot).state = .identified ∧ (t.slots.get r.slot).profile = some p

/-- An attempt fails at a byte of the part's that is not acknowledged, or at a bus clear that leaves the data line low
(R82): that byte, or the nine pulses, then a stop condition; attempts 1 and 2 leave RETRY_WAIT with the 5 ms retry timer,
attempt 3 ends the read with IDENT_NO_ANSWER (R84); at the timer's expiry the next attempt starts from the bus clear with
nothing carried over (R79). That the number of pulses is an operand, and that either command reports a failed bus clear,
are the model's choices (logs 13, 14). -/
def Obligations.FailedAttemptRetries : Prop :=
  ∀ (s : State) (r : ReadRecord), Safe s → s.partReset = false →
    (s.ident = .reading r → ∀ c : Instr,
      c = .attemptFails ∧ (r.phase = .busClear ∨ r.sent < 3) ∨ c = .busClear none ∧ r.phase = .busClear →
      let items : List BusItem :=
        (if r.phase = .busClear then List.replicate 9 .clockPulse else partByte r.phase r.sent) ++ [.stop]
      (r.attempt < 3 → exec c s = .next (onLink items { s with ident := .retryWait r 5000 })) ∧
      (r.attempt = 3 → exec c s = .next (readFailed r.slot .identNoAnswer (onLink items s)))) ∧
    ∀ micros, s.ident = .retryWait r micros →
      exec .retryTimerExpiry s =
        .next (silent
          { s with
            ident := .reading
              { slot := r.slot
                attempt := r.attempt + 1
                clock := s.config.clock
                phase := .busClear
                sent := 0
                bytes := []
                imageLength := none } })

/-- The end of the abandoned byte (R86): the byte is completed, then a stop condition, the controller IDLE, and the next
head of the queue taken into service in the same step (R76). The slot select and the link in every controller state
(R78): no slot connected in IDLE, the IDENTIFYING slot in READING and RETRY_WAIT, the removed slot in ABANDONING; the
link released exactly in IDLE and RETRY_WAIT. That the completed byte shows no bits is the model's choice (log 14). -/
def Obligations.AbandonedByteFreesController : Prop :=
  (∀ (s : State) (r : ReadRecord), s.partReset = false → s.ident = .abandoning r →
    exec .abandonedByteEnd s = .next (servingNext (onLink [.abandoned, .stop] s))) ∧
  ∀ s : State, Safe s →
    (s.ident.select = none ↔ s.ident = .idle) ∧
    (∀ n, (s.slots.get n).state = .identifying → s.ident.select = some n) ∧
    (∀ r, s.ident = .abandoning r → s.ident.select = some r.slot) ∧
    (s.ident.released = true ↔ s.ident = .idle ∨ ∃ r micros, s.ident = .retryWait r micros)

/-! ### Host port reset -/

/-- HOST_PORT_RESET (R153): the Host Request Table FREE with nothing answered, tagged entries removed and their references
released (R42) with the drains that brings (R2), tagged tags orphaned (R103), the engine IDLE with its result cleared
(R131), every in-service set empty (R124), all else kept. The quiesce test in this step is the model's reading of R68
(log 11). The release of the line lets the Host Port claim again and changes nothing else. -/
def Obligations.HostPortResetDiscards : Prop :=
  ∀ s : State, s.partReset = false →
    (Safe s → exec .hostPortReset s =
      .next ((List.finRange 8).foldl (fun t n => quiesceTested n t) (hostPortReset s))) ∧
    exec .hostPortResetRelease s = .next (silent { s with hostReset := false })
end

