-- ==== Sys2Proof/Laws/State.lean ====
section
/-! SUPPORT. What each one-record update of State does to each field, true by definition. -/

namespace Sys2Proof.Machine

/-! ### The outputs cleared -/

@[simp] theorem State.quiet_partReset (s : State) : (s.quiet).partReset = s.partReset := rfl
@[simp] theorem State.quiet_hostReset (s : State) : (s.quiet).hostReset = s.hostReset := rfl
@[simp] theorem State.quiet_apStrap (s : State) : (s.quiet).apStrap = s.apStrap := rfl
@[simp] theorem State.quiet_cbStrap (s : State) : (s.quiet).cbStrap = s.cbStrap := rfl
@[simp] theorem State.quiet_presence (s : State) : (s.quiet).presence = s.presence := rfl
@[simp] theorem State.quiet_powerGood (s : State) : (s.quiet).powerGood = s.powerGood := rfl
@[simp] theorem State.quiet_hostTable (s : State) : (s.quiet).hostTable = s.hostTable := rfl
@[simp] theorem State.quiet_windows (s : State) : (s.quiet).windows = s.windows := rfl
@[simp] theorem State.quiet_slots (s : State) : (s.quiet).slots = s.slots := rfl
@[simp] theorem State.quiet_links (s : State) : (s.quiet).links = s.links := rfl
@[simp] theorem State.quiet_identQueue (s : State) : (s.quiet).identQueue = s.identQueue := rfl
@[simp] theorem State.quiet_ident (s : State) : (s.quiet).ident = s.ident := rfl
@[simp] theorem State.quiet_sources (s : State) : (s.quiet).sources = s.sources := rfl
@[simp] theorem State.quiet_lines (s : State) : (s.quiet).lines = s.lines := rfl
@[simp] theorem State.quiet_engine (s : State) : (s.quiet).engine = s.engine := rfl
@[simp] theorem State.quiet_config (s : State) : (s.quiet).config = s.config := rfl
@[simp] theorem State.quiet_tickets (s : State) : (s.quiet).tickets = s.tickets := rfl
@[simp] theorem State.quiet_out (s : State) : (s.quiet).out = Outputs.nothing := rfl
@[simp] theorem State.quiet_pending (s : State) : (s.quiet).pending = s.pending := rfl

/-! ### A host tag set -/

@[simp] theorem State.putHostTag_partReset (s : State) (t : HostTag) (b : Bool) :
    (s.putHostTag t b).partReset = s.partReset := rfl
@[simp] theorem State.putHostTag_hostReset (s : State) (t : HostTag) (b : Bool) :
    (s.putHostTag t b).hostReset = s.hostReset := rfl
@[simp] theorem State.putHostTag_apStrap (s : State) (t : HostTag) (b : Bool) :
    (s.putHostTag t b).apStrap = s.apStrap := rfl
@[simp] theorem State.putHostTag_cbStrap (s : State) (t : HostTag) (b : Bool) :
    (s.putHostTag t b).cbStrap = s.cbStrap := rfl
@[simp] theorem State.putHostTag_presence (s : State) (t : HostTag) (b : Bool) :
    (s.putHostTag t b).presence = s.presence := rfl
@[simp] theorem State.putHostTag_powerGood (s : State) (t : HostTag) (b : Bool) :
    (s.putHostTag t b).powerGood = s.powerGood := rfl
@[simp] theorem State.putHostTag_hostTable (s : State) (t : HostTag) (b : Bool) :
    (s.putHostTag t b).hostTable = s.hostTable.put t b := rfl
@[simp] theorem State.putHostTag_windows (s : State) (t : HostTag) (b : Bool) :
    (s.putHostTag t b).windows = s.windows := rfl
@[simp] theorem State.putHostTag_slots (s : State) (t : HostTag) (b : Bool) :
    (s.putHostTag t b).slots = s.slots := rfl
@[simp] theorem State.putHostTag_links (s : State) (t : HostTag) (b : Bool) :
    (s.putHostTag t b).links = s.links := rfl
@[simp] theorem State.putHostTag_identQueue (s : State) (t : HostTag) (b : Bool) :
    (s.putHostTag t b).identQueue = s.identQueue := rfl
@[simp] theorem State.putHostTag_ident (s : State) (t : HostTag) (b : Bool) :
    (s.putHostTag t b).ident = s.ident := rfl
@[simp] theorem State.putHostTag_sources (s : State) (t : HostTag) (b : Bool) :
    (s.putHostTag t b).sources = s.sources := rfl
@[simp] theorem State.putHostTag_lines (s : State) (t : HostTag) (b : Bool) :
    (s.putHostTag t b).lines = s.lines := rfl
@[simp] theorem State.putHostTag_engine (s : State) (t : HostTag) (b : Bool) :
    (s.putHostTag t b).engine = s.engine := rfl
@[simp] theorem State.putHostTag_config (s : State) (t : HostTag) (b : Bool) :
    (s.putHostTag t b).config = s.config := rfl
@[simp] theorem State.putHostTag_tickets (s : State) (t : HostTag) (b : Bool) :
    (s.putHostTag t b).tickets = s.tickets := rfl
@[simp] theorem State.putHostTag_out (s : State) (t : HostTag) (b : Bool) : (s.putHostTag t b).out = s.out := rfl
@[simp] theorem State.putHostTag_pending (s : State) (t : HostTag) (b : Bool) :
    (s.putHostTag t b).pending = s.pending := rfl

/-! ### A window replaced -/

@[simp] theorem State.putWindow_partReset (s : State) (w : WinIx) (x : Window) :
    (s.putWindow w x).partReset = s.partReset := rfl
@[simp] theorem State.putWindow_hostReset (s : State) (w : WinIx) (x : Window) :
    (s.putWindow w x).hostReset = s.hostReset := rfl
@[simp] theorem State.putWindow_apStrap (s : State) (w : WinIx) (x : Window) :
    (s.putWindow w x).apStrap = s.apStrap := rfl
@[simp] theorem State.putWindow_cbStrap (s : State) (w : WinIx) (x : Window) :
    (s.putWindow w x).cbStrap = s.cbStrap := rfl
@[simp] theorem State.putWindow_presence (s : State) (w : WinIx) (x : Window) :
    (s.putWindow w x).presence = s.presence := rfl
@[simp] theorem State.putWindow_powerGood (s : State) (w : WinIx) (x : Window) :
    (s.putWindow w x).powerGood = s.powerGood := rfl
@[simp] theorem State.putWindow_hostTable (s : State) (w : WinIx) (x : Window) :
    (s.putWindow w x).hostTable = s.hostTable := rfl
@[simp] theorem State.putWindow_windows (s : State) (w : WinIx) (x : Window) :
    (s.putWindow w x).windows = s.windows.put w x := rfl
@[simp] theorem State.putWindow_slots (s : State) (w : WinIx) (x : Window) : (s.putWindow w x).slots = s.slots := rfl
@[simp] theorem State.putWindow_links (s : State) (w : WinIx) (x : Window) : (s.putWindow w x).links = s.links := rfl
@[simp] theorem State.putWindow_identQueue (s : State) (w : WinIx) (x : Window) :
    (s.putWindow w x).identQueue = s.identQueue := rfl
@[simp] theorem State.putWindow_ident (s : State) (w : WinIx) (x : Window) : (s.putWindow w x).ident = s.ident := rfl
@[simp] theorem State.putWindow_sources (s : State) (w : WinIx) (x : Window) :
    (s.putWindow w x).sources = s.sources := rfl
@[simp] theorem State.putWindow_lines (s : State) (w : WinIx) (x : Window) : (s.putWindow w x).lines = s.lines := rfl
@[simp] theorem State.putWindow_engine (s : State) (w : WinIx) (x : Window) :
    (s.putWindow w x).engine = s.engine := rfl
@[simp] theorem State.putWindow_config (s : State) (w : WinIx) (x : Window) :
    (s.putWindow w x).config = s.config := rfl
@[simp] theorem State.putWindow_tickets (s : State) (w : WinIx) (x : Window) :
    (s.putWindow w x).tickets = s.tickets := rfl
@[simp] theorem State.putWindow_out (s : State) (w : WinIx) (x : Window) : (s.putWindow w x).out = s.out := rfl
@[simp] theorem State.putWindow_pending (s : State) (w : WinIx) (x : Window) :
    (s.putWindow w x).pending = s.pending := rfl

/-! ### Every window changed -/

@[simp] theorem State.eachWindow_partReset (s : State) (f : Window → Window) :
    (s.eachWindow f).partReset = s.partReset := by simp only [State.eachWindow]
@[simp] theorem State.eachWindow_hostReset (s : State) (f : Window → Window) :
    (s.eachWindow f).hostReset = s.hostReset := by simp only [State.eachWindow]
@[simp] theorem State.eachWindow_apStrap (s : State) (f : Window → Window) :
    (s.eachWindow f).apStrap = s.apStrap := by simp only [State.eachWindow]
@[simp] theorem State.eachWindow_cbStrap (s : State) (f : Window → Window) :
    (s.eachWindow f).cbStrap = s.cbStrap := by simp only [State.eachWindow]
@[simp] theorem State.eachWindow_presence (s : State) (f : Window → Window) :
    (s.eachWindow f).presence = s.presence := by simp only [State.eachWindow]
@[simp] theorem State.eachWindow_powerGood (s : State) (f : Window → Window) :
    (s.eachWindow f).powerGood = s.powerGood := by simp only [State.eachWindow]
@[simp] theorem State.eachWindow_hostTable (s : State) (f : Window → Window) :
    (s.eachWindow f).hostTable = s.hostTable := by simp only [State.eachWindow]
@[simp] theorem State.eachWindow_windows (s : State) (f : Window → Window) :
    (s.eachWindow f).windows = s.windows.each fun _ => f := rfl
@[simp] theorem State.eachWindow_slots (s : State) (f : Window → Window) :
    (s.eachWindow f).slots = s.slots := by simp only [State.eachWindow]
@[simp] theorem State.eachWindow_links (s : State) (f : Window → Window) :
    (s.eachWindow f).links = s.links := by simp only [State.eachWindow]
@[simp] theorem State.eachWindow_identQueue (s : State) (f : Window → Window) :
    (s.eachWindow f).identQueue = s.identQueue := by simp only [State.eachWindow]
@[simp] theorem State.eachWindow_ident (s : State) (f : Window → Window) :
    (s.eachWindow f).ident = s.ident := by simp only [State.eachWindow]
@[simp] theorem State.eachWindow_sources (s : State) (f : Window → Window) :
    (s.eachWindow f).sources = s.sources := by simp only [State.eachWindow]
@[simp] theorem State.eachWindow_lines (s : State) (f : Window → Window) :
    (s.eachWindow f).lines = s.lines := by simp only [State.eachWindow]
@[simp] theorem State.eachWindow_engine (s : State) (f : Window → Window) :
    (s.eachWindow f).engine = s.engine := by simp only [State.eachWindow]
@[simp] theorem State.eachWindow_config (s : State) (f : Window → Window) :
    (s.eachWindow f).config = s.config := by simp only [State.eachWindow]
@[simp] theorem State.eachWindow_tickets (s : State) (f : Window → Window) :
    (s.eachWindow f).tickets = s.tickets := by simp only [State.eachWindow]
@[simp] theorem State.eachWindow_out (s : State) (f : Window → Window) :
    (s.eachWindow f).out = s.out := by simp only [State.eachWindow]
@[simp] theorem State.eachWindow_pending (s : State) (f : Window → Window) :
    (s.eachWindow f).pending = s.pending := by simp only [State.eachWindow]

/-! ### A slot replaced -/

@[simp] theorem State.putSlot_partReset (s : State) (n : SlotIx) (r : Slot) :
    (s.putSlot n r).partReset = s.partReset := rfl
@[simp] theorem State.putSlot_hostReset (s : State) (n : SlotIx) (r : Slot) :
    (s.putSlot n r).hostReset = s.hostReset := rfl
@[simp] theorem State.putSlot_apStrap (s : State) (n : SlotIx) (r : Slot) : (s.putSlot n r).apStrap = s.apStrap := rfl
@[simp] theorem State.putSlot_cbStrap (s : State) (n : SlotIx) (r : Slot) : (s.putSlot n r).cbStrap = s.cbStrap := rfl
@[simp] theorem State.putSlot_presence (s : State) (n : SlotIx) (r : Slot) :
    (s.putSlot n r).presence = s.presence := rfl
@[simp] theorem State.putSlot_powerGood (s : State) (n : SlotIx) (r : Slot) :
    (s.putSlot n r).powerGood = s.powerGood := rfl
@[simp] theorem State.putSlot_hostTable (s : State) (n : SlotIx) (r : Slot) :
    (s.putSlot n r).hostTable = s.hostTable := rfl
@[simp] theorem State.putSlot_windows (s : State) (n : SlotIx) (r : Slot) : (s.putSlot n r).windows = s.windows := rfl
@[simp] theorem State.putSlot_slots (s : State) (n : SlotIx) (r : Slot) :
    (s.putSlot n r).slots = s.slots.put n r := rfl
@[simp] theorem State.putSlot_links (s : State) (n : SlotIx) (r : Slot) : (s.putSlot n r).links = s.links := rfl
@[simp] theorem State.putSlot_identQueue (s : State) (n : SlotIx) (r : Slot) :
    (s.putSlot n r).identQueue = s.identQueue := rfl
@[simp] theorem State.putSlot_ident (s : State) (n : SlotIx) (r : Slot) : (s.putSlot n r).ident = s.ident := rfl
@[simp] theorem State.putSlot_sources (s : State) (n : SlotIx) (r : Slot) : (s.putSlot n r).sources = s.sources := rfl
@[simp] theorem State.putSlot_lines (s : State) (n : SlotIx) (r : Slot) : (s.putSlot n r).lines = s.lines := rfl
@[simp] theorem State.putSlot_engine (s : State) (n : SlotIx) (r : Slot) : (s.putSlot n r).engine = s.engine := rfl
@[simp] theorem State.putSlot_config (s : State) (n : SlotIx) (r : Slot) : (s.putSlot n r).config = s.config := rfl
@[simp] theorem State.putSlot_tickets (s : State) (n : SlotIx) (r : Slot) : (s.putSlot n r).tickets = s.tickets := rfl
@[simp] theorem State.putSlot_out (s : State) (n : SlotIx) (r : Slot) : (s.putSlot n r).out = s.out := rfl
@[simp] theorem State.putSlot_pending (s : State) (n : SlotIx) (r : Slot) : (s.putSlot n r).pending = s.pending := rfl

/-! ### An engine replaced -/

@[simp] theorem State.putLink_partReset (s : State) (n : SlotIx) (l : Link) :
    (s.putLink n l).partReset = s.partReset := rfl
@[simp] theorem State.putLink_hostReset (s : State) (n : SlotIx) (l : Link) :
    (s.putLink n l).hostReset = s.hostReset := rfl
@[simp] theorem State.putLink_apStrap (s : State) (n : SlotIx) (l : Link) : (s.putLink n l).apStrap = s.apStrap := rfl
@[simp] theorem State.putLink_cbStrap (s : State) (n : SlotIx) (l : Link) : (s.putLink n l).cbStrap = s.cbStrap := rfl
@[simp] theorem State.putLink_presence (s : State) (n : SlotIx) (l : Link) :
    (s.putLink n l).presence = s.presence := rfl
@[simp] theorem State.putLink_powerGood (s : State) (n : SlotIx) (l : Link) :
    (s.putLink n l).powerGood = s.powerGood := rfl
@[simp] theorem State.putLink_hostTable (s : State) (n : SlotIx) (l : Link) :
    (s.putLink n l).hostTable = s.hostTable := rfl
@[simp] theorem State.putLink_windows (s : State) (n : SlotIx) (l : Link) : (s.putLink n l).windows = s.windows := rfl
@[simp] theorem State.putLink_slots (s : State) (n : SlotIx) (l : Link) : (s.putLink n l).slots = s.slots := rfl
@[simp] theorem State.putLink_links (s : State) (n : SlotIx) (l : Link) :
    (s.putLink n l).links = s.links.put n l := rfl
@[simp] theorem State.putLink_identQueue (s : State) (n : SlotIx) (l : Link) :
    (s.putLink n l).identQueue = s.identQueue := rfl
@[simp] theorem State.putLink_ident (s : State) (n : SlotIx) (l : Link) : (s.putLink n l).ident = s.ident := rfl
@[simp] theorem State.putLink_sources (s : State) (n : SlotIx) (l : Link) : (s.putLink n l).sources = s.sources := rfl
@[simp] theorem State.putLink_lines (s : State) (n : SlotIx) (l : Link) : (s.putLink n l).lines = s.lines := rfl
@[simp] theorem State.putLink_engine (s : State) (n : SlotIx) (l : Link) : (s.putLink n l).engine = s.engine := rfl
@[simp] theorem State.putLink_config (s : State) (n : SlotIx) (l : Link) : (s.putLink n l).config = s.config := rfl
@[simp] theorem State.putLink_tickets (s : State) (n : SlotIx) (l : Link) : (s.putLink n l).tickets = s.tickets := rfl
@[simp] theorem State.putLink_out (s : State) (n : SlotIx) (l : Link) : (s.putLink n l).out = s.out := rfl
@[simp] theorem State.putLink_pending (s : State) (n : SlotIx) (l : Link) : (s.putLink n l).pending = s.pending := rfl

/-! ### A source replaced -/

@[simp] theorem State.putSource_partReset (s : State) (i : Fin 18) (r : Source) :
    (s.putSource i r).partReset = s.partReset := rfl
@[simp] theorem State.putSource_hostReset (s : State) (i : Fin 18) (r : Source) :
    (s.putSource i r).hostReset = s.hostReset := rfl
@[simp] theorem State.putSource_apStrap (s : State) (i : Fin 18) (r : Source) :
    (s.putSource i r).apStrap = s.apStrap := rfl
@[simp] theorem State.putSource_cbStrap (s : State) (i : Fin 18) (r : Source) :
    (s.putSource i r).cbStrap = s.cbStrap := rfl
@[simp] theorem State.putSource_presence (s : State) (i : Fin 18) (r : Source) :
    (s.putSource i r).presence = s.presence := rfl
@[simp] theorem State.putSource_powerGood (s : State) (i : Fin 18) (r : Source) :
    (s.putSource i r).powerGood = s.powerGood := rfl
@[simp] theorem State.putSource_hostTable (s : State) (i : Fin 18) (r : Source) :
    (s.putSource i r).hostTable = s.hostTable := rfl
@[simp] theorem State.putSource_windows (s : State) (i : Fin 18) (r : Source) :
    (s.putSource i r).windows = s.windows := rfl
@[simp] theorem State.putSource_slots (s : State) (i : Fin 18) (r : Source) : (s.putSource i r).slots = s.slots := rfl
@[simp] theorem State.putSource_links (s : State) (i : Fin 18) (r : Source) : (s.putSource i r).links = s.links := rfl
@[simp] theorem State.putSource_identQueue (s : State) (i : Fin 18) (r : Source) :
    (s.putSource i r).identQueue = s.identQueue := rfl
@[simp] theorem State.putSource_ident (s : State) (i : Fin 18) (r : Source) : (s.putSource i r).ident = s.ident := rfl
@[simp] theorem State.putSource_sources (s : State) (i : Fin 18) (r : Source) :
    (s.putSource i r).sources = s.sources.put i r := rfl
@[simp] theorem State.putSource_lines (s : State) (i : Fin 18) (r : Source) : (s.putSource i r).lines = s.lines := rfl
@[simp] theorem State.putSource_engine (s : State) (i : Fin 18) (r : Source) :
    (s.putSource i r).engine = s.engine := rfl
@[simp] theorem State.putSource_config (s : State) (i : Fin 18) (r : Source) :
    (s.putSource i r).config = s.config := rfl
@[simp] theorem State.putSource_tickets (s : State) (i : Fin 18) (r : Source) :
    (s.putSource i r).tickets = s.tickets := rfl
@[simp] theorem State.putSource_out (s : State) (i : Fin 18) (r : Source) : (s.putSource i r).out = s.out := rfl
@[simp] theorem State.putSource_pending (s : State) (i : Fin 18) (r : Source) :
    (s.putSource i r).pending = s.pending := rfl

/-! ### An in-service set replaced -/

@[simp] theorem State.putLine_partReset (s : State) (l : LineIx) (set : Byte) :
    (s.putLine l set).partReset = s.partReset := rfl
@[simp] theorem State.putLine_hostReset (s : State) (l : LineIx) (set : Byte) :
    (s.putLine l set).hostReset = s.hostReset := rfl
@[simp] theorem State.putLine_apStrap (s : State) (l : LineIx) (set : Byte) :
    (s.putLine l set).apStrap = s.apStrap := rfl
@[simp] theorem State.putLine_cbStrap (s : State) (l : LineIx) (set : Byte) :
    (s.putLine l set).cbStrap = s.cbStrap := rfl
@[simp] theorem State.putLine_presence (s : State) (l : LineIx) (set : Byte) :
    (s.putLine l set).presence = s.presence := rfl
@[simp] theorem State.putLine_powerGood (s : State) (l : LineIx) (set : Byte) :
    (s.putLine l set).powerGood = s.powerGood := rfl
@[simp] theorem State.putLine_hostTable (s : State) (l : LineIx) (set : Byte) :
    (s.putLine l set).hostTable = s.hostTable := rfl
@[simp] theorem State.putLine_windows (s : State) (l : LineIx) (set : Byte) :
    (s.putLine l set).windows = s.windows := rfl
@[simp] theorem State.putLine_slots (s : State) (l : LineIx) (set : Byte) : (s.putLine l set).slots = s.slots := rfl
@[simp] theorem State.putLine_links (s : State) (l : LineIx) (set : Byte) : (s.putLine l set).links = s.links := rfl
@[simp] theorem State.putLine_identQueue (s : State) (l : LineIx) (set : Byte) :
    (s.putLine l set).identQueue = s.identQueue := rfl
@[simp] theorem State.putLine_ident (s : State) (l : LineIx) (set : Byte) : (s.putLine l set).ident = s.ident := rfl
@[simp] theorem State.putLine_sources (s : State) (l : LineIx) (set : Byte) :
    (s.putLine l set).sources = s.sources := rfl
@[simp] theorem State.putLine_lines (s : State) (l : LineIx) (set : Byte) :
    (s.putLine l set).lines = s.lines.put l set := rfl
@[simp] theorem State.putLine_engine (s : State) (l : LineIx) (set : Byte) :
    (s.putLine l set).engine = s.engine := rfl
@[simp] theorem State.putLine_config (s : State) (l : LineIx) (set : Byte) :
    (s.putLine l set).config = s.config := rfl
@[simp] theorem State.putLine_tickets (s : State) (l : LineIx) (set : Byte) :
    (s.putLine l set).tickets = s.tickets := rfl
@[simp] theorem State.putLine_out (s : State) (l : LineIx) (set : Byte) : (s.putLine l set).out = s.out := rfl
@[simp] theorem State.putLine_pending (s : State) (l : LineIx) (set : Byte) :
    (s.putLine l set).pending = s.pending := rfl

/-! ### A ticket replaced -/

@[simp] theorem State.putTicket_partReset (s : State) (k : Fin 8) (t : Ticket) :
    (s.putTicket k t).partReset = s.partReset := rfl
@[simp] theorem State.putTicket_hostReset (s : State) (k : Fin 8) (t : Ticket) :
    (s.putTicket k t).hostReset = s.hostReset := rfl
@[simp] theorem State.putTicket_apStrap (s : State) (k : Fin 8) (t : Ticket) :
    (s.putTicket k t).apStrap = s.apStrap := rfl
@[simp] theorem State.putTicket_cbStrap (s : State) (k : Fin 8) (t : Ticket) :
    (s.putTicket k t).cbStrap = s.cbStrap := rfl
@[simp] theorem State.putTicket_presence (s : State) (k : Fin 8) (t : Ticket) :
    (s.putTicket k t).presence = s.presence := rfl
@[simp] theorem State.putTicket_powerGood (s : State) (k : Fin 8) (t : Ticket) :
    (s.putTicket k t).powerGood = s.powerGood := rfl
@[simp] theorem State.putTicket_hostTable (s : State) (k : Fin 8) (t : Ticket) :
    (s.putTicket k t).hostTable = s.hostTable := rfl
@[simp] theorem State.putTicket_windows (s : State) (k : Fin 8) (t : Ticket) :
    (s.putTicket k t).windows = s.windows := rfl
@[simp] theorem State.putTicket_slots (s : State) (k : Fin 8) (t : Ticket) : (s.putTicket k t).slots = s.slots := rfl
@[simp] theorem State.putTicket_links (s : State) (k : Fin 8) (t : Ticket) : (s.putTicket k t).links = s.links := rfl
@[simp] theorem State.putTicket_identQueue (s : State) (k : Fin 8) (t : Ticket) :
    (s.putTicket k t).identQueue = s.identQueue := rfl
@[simp] theorem State.putTicket_ident (s : State) (k : Fin 8) (t : Ticket) : (s.putTicket k t).ident = s.ident := rfl
@[simp] theorem State.putTicket_sources (s : State) (k : Fin 8) (t : Ticket) :
    (s.putTicket k t).sources = s.sources := rfl
@[simp] theorem State.putTicket_lines (s : State) (k : Fin 8) (t : Ticket) : (s.putTicket k t).lines = s.lines := rfl
@[simp] theorem State.putTicket_engine (s : State) (k : Fin 8) (t : Ticket) :
    (s.putTicket k t).engine = s.engine := rfl
@[simp] theorem State.putTicket_config (s : State) (k : Fin 8) (t : Ticket) :
    (s.putTicket k t).config = s.config := rfl
@[simp] theorem State.putTicket_tickets (s : State) (k : Fin 8) (t : Ticket) :
    (s.putTicket k t).tickets = s.tickets.put k t := rfl
@[simp] theorem State.putTicket_out (s : State) (k : Fin 8) (t : Ticket) : (s.putTicket k t).out = s.out := rfl
@[simp] theorem State.putTicket_pending (s : State) (k : Fin 8) (t : Ticket) :
    (s.putTicket k t).pending = s.pending := rfl

/-! ### The Command Engine replaced -/

@[simp] theorem State.putEngine_partReset (s : State) (e : Engine) : (s.putEngine e).partReset = s.partReset := rfl
@[simp] theorem State.putEngine_hostReset (s : State) (e : Engine) : (s.putEngine e).hostReset = s.hostReset := rfl
@[simp] theorem State.putEngine_apStrap (s : State) (e : Engine) : (s.putEngine e).apStrap = s.apStrap := rfl
@[simp] theorem State.putEngine_cbStrap (s : State) (e : Engine) : (s.putEngine e).cbStrap = s.cbStrap := rfl
@[simp] theorem State.putEngine_presence (s : State) (e : Engine) : (s.putEngine e).presence = s.presence := rfl
@[simp] theorem State.putEngine_powerGood (s : State) (e : Engine) : (s.putEngine e).powerGood = s.powerGood := rfl
@[simp] theorem State.putEngine_hostTable (s : State) (e : Engine) : (s.putEngine e).hostTable = s.hostTable := rfl
@[simp] theorem State.putEngine_windows (s : State) (e : Engine) : (s.putEngine e).windows = s.windows := rfl
@[simp] theorem State.putEngine_slots (s : State) (e : Engine) : (s.putEngine e).slots = s.slots := rfl
@[simp] theorem State.putEngine_links (s : State) (e : Engine) : (s.putEngine e).links = s.links := rfl
@[simp] theorem State.putEngine_identQueue (s : State) (e : Engine) : (s.putEngine e).identQueue = s.identQueue := rfl
@[simp] theorem State.putEngine_ident (s : State) (e : Engine) : (s.putEngine e).ident = s.ident := rfl
@[simp] theorem State.putEngine_sources (s : State) (e : Engine) : (s.putEngine e).sources = s.sources := rfl
@[simp] theorem State.putEngine_lines (s : State) (e : Engine) : (s.putEngine e).lines = s.lines := rfl
@[simp] theorem State.putEngine_engine (s : State) (e : Engine) : (s.putEngine e).engine = e := rfl
@[simp] theorem State.putEngine_config (s : State) (e : Engine) : (s.putEngine e).config = s.config := rfl
@[simp] theorem State.putEngine_tickets (s : State) (e : Engine) : (s.putEngine e).tickets = s.tickets := rfl
@[simp] theorem State.putEngine_out (s : State) (e : Engine) : (s.putEngine e).out = s.out := rfl
@[simp] theorem State.putEngine_pending (s : State) (e : Engine) : (s.putEngine e).pending = s.pending := rfl

/-! ### The Identification Controller replaced -/

@[simp] theorem State.putIdent_partReset (s : State) (c : IdentCtl) : (s.putIdent c).partReset = s.partReset := rfl
@[simp] theorem State.putIdent_hostReset (s : State) (c : IdentCtl) : (s.putIdent c).hostReset = s.hostReset := rfl
@[simp] theorem State.putIdent_apStrap (s : State) (c : IdentCtl) : (s.putIdent c).apStrap = s.apStrap := rfl
@[simp] theorem State.putIdent_cbStrap (s : State) (c : IdentCtl) : (s.putIdent c).cbStrap = s.cbStrap := rfl
@[simp] theorem State.putIdent_presence (s : State) (c : IdentCtl) : (s.putIdent c).presence = s.presence := rfl
@[simp] theorem State.putIdent_powerGood (s : State) (c : IdentCtl) : (s.putIdent c).powerGood = s.powerGood := rfl
@[simp] theorem State.putIdent_hostTable (s : State) (c : IdentCtl) : (s.putIdent c).hostTable = s.hostTable := rfl
@[simp] theorem State.putIdent_windows (s : State) (c : IdentCtl) : (s.putIdent c).windows = s.windows := rfl
@[simp] theorem State.putIdent_slots (s : State) (c : IdentCtl) : (s.putIdent c).slots = s.slots := rfl
@[simp] theorem State.putIdent_links (s : State) (c : IdentCtl) : (s.putIdent c).links = s.links := rfl
@[simp] theorem State.putIdent_identQueue (s : State) (c : IdentCtl) : (s.putIdent c).identQueue = s.identQueue := rfl
@[simp] theorem State.putIdent_ident (s : State) (c : IdentCtl) : (s.putIdent c).ident = c := rfl
@[simp] theorem State.putIdent_sources (s : State) (c : IdentCtl) : (s.putIdent c).sources = s.sources := rfl
@[simp] theorem State.putIdent_lines (s : State) (c : IdentCtl) : (s.putIdent c).lines = s.lines := rfl
@[simp] theorem State.putIdent_engine (s : State) (c : IdentCtl) : (s.putIdent c).engine = s.engine := rfl
@[simp] theorem State.putIdent_config (s : State) (c : IdentCtl) : (s.putIdent c).config = s.config := rfl
@[simp] theorem State.putIdent_tickets (s : State) (c : IdentCtl) : (s.putIdent c).tickets = s.tickets := rfl
@[simp] theorem State.putIdent_out (s : State) (c : IdentCtl) : (s.putIdent c).out = s.out := rfl
@[simp] theorem State.putIdent_pending (s : State) (c : IdentCtl) : (s.putIdent c).pending = s.pending := rfl

/-! ### The Identification Queue replaced -/

@[simp] theorem State.putIdentQueue_partReset (s : State) (q : List SlotIx) :
    (s.putIdentQueue q).partReset = s.partReset := rfl
@[simp] theorem State.putIdentQueue_hostReset (s : State) (q : List SlotIx) :
    (s.putIdentQueue q).hostReset = s.hostReset := rfl
@[simp] theorem State.putIdentQueue_apStrap (s : State) (q : List SlotIx) :
    (s.putIdentQueue q).apStrap = s.apStrap := rfl
@[simp] theorem State.putIdentQueue_cbStrap (s : State) (q : List SlotIx) :
    (s.putIdentQueue q).cbStrap = s.cbStrap := rfl
@[simp] theorem State.putIdentQueue_presence (s : State) (q : List SlotIx) :
    (s.putIdentQueue q).presence = s.presence := rfl
@[simp] theorem State.putIdentQueue_powerGood (s : State) (q : List SlotIx) :
    (s.putIdentQueue q).powerGood = s.powerGood := rfl
@[simp] theorem State.putIdentQueue_hostTable (s : State) (q : List SlotIx) :
    (s.putIdentQueue q).hostTable = s.hostTable := rfl
@[simp] theorem State.putIdentQueue_windows (s : State) (q : List SlotIx) :
    (s.putIdentQueue q).windows = s.windows := rfl
@[simp] theorem State.putIdentQueue_slots (s : State) (q : List SlotIx) : (s.putIdentQueue q).slots = s.slots := rfl
@[simp] theorem State.putIdentQueue_links (s : State) (q : List SlotIx) : (s.putIdentQueue q).links = s.links := rfl
@[simp] theorem State.putIdentQueue_identQueue (s : State) (q : List SlotIx) :
    (s.putIdentQueue q).identQueue = q := rfl
@[simp] theorem State.putIdentQueue_ident (s : State) (q : List SlotIx) : (s.putIdentQueue q).ident = s.ident := rfl
@[simp] theorem State.putIdentQueue_sources (s : State) (q : List SlotIx) :
    (s.putIdentQueue q).sources = s.sources := rfl
@[simp] theorem State.putIdentQueue_lines (s : State) (q : List SlotIx) : (s.putIdentQueue q).lines = s.lines := rfl
@[simp] theorem State.putIdentQueue_engine (s : State) (q : List SlotIx) :
    (s.putIdentQueue q).engine = s.engine := rfl
@[simp] theorem State.putIdentQueue_config (s : State) (q : List SlotIx) :
    (s.putIdentQueue q).config = s.config := rfl
@[simp] theorem State.putIdentQueue_tickets (s : State) (q : List SlotIx) :
    (s.putIdentQueue q).tickets = s.tickets := rfl
@[simp] theorem State.putIdentQueue_out (s : State) (q : List SlotIx) : (s.putIdentQueue q).out = s.out := rfl
@[simp] theorem State.putIdentQueue_pending (s : State) (q : List SlotIx) :
    (s.putIdentQueue q).pending = s.pending := rfl

/-! ### A presence level -/

@[simp] theorem State.putPresence_partReset (s : State) (n : SlotIx) (b : Bool) :
    (s.putPresence n b).partReset = s.partReset := rfl
@[simp] theorem State.putPresence_hostReset (s : State) (n : SlotIx) (b : Bool) :
    (s.putPresence n b).hostReset = s.hostReset := rfl
@[simp] theorem State.putPresence_apStrap (s : State) (n : SlotIx) (b : Bool) :
    (s.putPresence n b).apStrap = s.apStrap := rfl
@[simp] theorem State.putPresence_cbStrap (s : State) (n : SlotIx) (b : Bool) :
    (s.putPresence n b).cbStrap = s.cbStrap := rfl
@[simp] theorem State.putPresence_presence (s : State) (n : SlotIx) (b : Bool) :
    (s.putPresence n b).presence = s.presence.put n b := rfl
@[simp] theorem State.putPresence_powerGood (s : State) (n : SlotIx) (b : Bool) :
    (s.putPresence n b).powerGood = s.powerGood := rfl
@[simp] theorem State.putPresence_hostTable (s : State) (n : SlotIx) (b : Bool) :
    (s.putPresence n b).hostTable = s.hostTable := rfl
@[simp] theorem State.putPresence_windows (s : State) (n : SlotIx) (b : Bool) :
    (s.putPresence n b).windows = s.windows := rfl
@[simp] theorem State.putPresence_slots (s : State) (n : SlotIx) (b : Bool) :
    (s.putPresence n b).slots = s.slots := rfl
@[simp] theorem State.putPresence_links (s : State) (n : SlotIx) (b : Bool) :
    (s.putPresence n b).links = s.links := rfl
@[simp] theorem State.putPresence_identQueue (s : State) (n : SlotIx) (b : Bool) :
    (s.putPresence n b).identQueue = s.identQueue := rfl
@[simp] theorem State.putPresence_ident (s : State) (n : SlotIx) (b : Bool) :
    (s.putPresence n b).ident = s.ident := rfl
@[simp] theorem State.putPresence_sources (s : State) (n : SlotIx) (b : Bool) :
    (s.putPresence n b).sources = s.sources := rfl
@[simp] theorem State.putPresence_lines (s : State) (n : SlotIx) (b : Bool) :
    (s.putPresence n b).lines = s.lines := rfl
@[simp] theorem State.putPresence_engine (s : State) (n : SlotIx) (b : Bool) :
    (s.putPresence n b).engine = s.engine := rfl
@[simp] theorem State.putPresence_config (s : State) (n : SlotIx) (b : Bool) :
    (s.putPresence n b).config = s.config := rfl
@[simp] theorem State.putPresence_tickets (s : State) (n : SlotIx) (b : Bool) :
    (s.putPresence n b).tickets = s.tickets := rfl
@[simp] theorem State.putPresence_out (s : State) (n : SlotIx) (b : Bool) : (s.putPresence n b).out = s.out := rfl
@[simp] theorem State.putPresence_pending (s : State) (n : SlotIx) (b : Bool) :
    (s.putPresence n b).pending = s.pending := rfl

/-! ### A power-good level -/

@[simp] theorem State.putPowerGood_partReset (s : State) (n : SlotIx) (b : Bool) :
    (s.putPowerGood n b).partReset = s.partReset := rfl
@[simp] theorem State.putPowerGood_hostReset (s : State) (n : SlotIx) (b : Bool) :
    (s.putPowerGood n b).hostReset = s.hostReset := rfl
@[simp] theorem State.putPowerGood_apStrap (s : State) (n : SlotIx) (b : Bool) :
    (s.putPowerGood n b).apStrap = s.apStrap := rfl
@[simp] theorem State.putPowerGood_cbStrap (s : State) (n : SlotIx) (b : Bool) :
    (s.putPowerGood n b).cbStrap = s.cbStrap := rfl
@[simp] theorem State.putPowerGood_presence (s : State) (n : SlotIx) (b : Bool) :
    (s.putPowerGood n b).presence = s.presence := rfl
@[simp] theorem State.putPowerGood_powerGood (s : State) (n : SlotIx) (b : Bool) :
    (s.putPowerGood n b).powerGood = s.powerGood.put n b := rfl
@[simp] theorem State.putPowerGood_hostTable (s : State) (n : SlotIx) (b : Bool) :
    (s.putPowerGood n b).hostTable = s.hostTable := rfl
@[simp] theorem State.putPowerGood_windows (s : State) (n : SlotIx) (b : Bool) :
    (s.putPowerGood n b).windows = s.windows := rfl
@[simp] theorem State.putPowerGood_slots (s : State) (n : SlotIx) (b : Bool) :
    (s.putPowerGood n b).slots = s.slots := rfl
@[simp] theorem State.putPowerGood_links (s : State) (n : SlotIx) (b : Bool) :
    (s.putPowerGood n b).links = s.links := rfl
@[simp] theorem State.putPowerGood_identQueue (s : State) (n : SlotIx) (b : Bool) :
    (s.putPowerGood n b).identQueue = s.identQueue := rfl
@[simp] theorem State.putPowerGood_ident (s : State) (n : SlotIx) (b : Bool) :
    (s.putPowerGood n b).ident = s.ident := rfl
@[simp] theorem State.putPowerGood_sources (s : State) (n : SlotIx) (b : Bool) :
    (s.putPowerGood n b).sources = s.sources := rfl
@[simp] theorem State.putPowerGood_lines (s : State) (n : SlotIx) (b : Bool) :
    (s.putPowerGood n b).lines = s.lines := rfl
@[simp] theorem State.putPowerGood_engine (s : State) (n : SlotIx) (b : Bool) :
    (s.putPowerGood n b).engine = s.engine := rfl
@[simp] theorem State.putPowerGood_config (s : State) (n : SlotIx) (b : Bool) :
    (s.putPowerGood n b).config = s.config := rfl
@[simp] theorem State.putPowerGood_tickets (s : State) (n : SlotIx) (b : Bool) :
    (s.putPowerGood n b).tickets = s.tickets := rfl
@[simp] theorem State.putPowerGood_out (s : State) (n : SlotIx) (b : Bool) : (s.putPowerGood n b).out = s.out := rfl
@[simp] theorem State.putPowerGood_pending (s : State) (n : SlotIx) (b : Bool) :
    (s.putPowerGood n b).pending = s.pending := rfl

/-! ### A response sent -/

@[simp] theorem State.putResponse_partReset (s : State) (t : HostTag) (r : Response) :
    (s.putResponse t r).partReset = s.partReset := rfl
@[simp] theorem State.putResponse_hostReset (s : State) (t : HostTag) (r : Response) :
    (s.putResponse t r).hostReset = s.hostReset := rfl
@[simp] theorem State.putResponse_apStrap (s : State) (t : HostTag) (r : Response) :
    (s.putResponse t r).apStrap = s.apStrap := rfl
@[simp] theorem State.putResponse_cbStrap (s : State) (t : HostTag) (r : Response) :
    (s.putResponse t r).cbStrap = s.cbStrap := rfl
@[simp] theorem State.putResponse_presence (s : State) (t : HostTag) (r : Response) :
    (s.putResponse t r).presence = s.presence := rfl
@[simp] theorem State.putResponse_powerGood (s : State) (t : HostTag) (r : Response) :
    (s.putResponse t r).powerGood = s.powerGood := rfl
@[simp] theorem State.putResponse_hostTable (s : State) (t : HostTag) (r : Response) :
    (s.putResponse t r).hostTable = s.hostTable := rfl
@[simp] theorem State.putResponse_windows (s : State) (t : HostTag) (r : Response) :
    (s.putResponse t r).windows = s.windows := rfl
@[simp] theorem State.putResponse_slots (s : State) (t : HostTag) (r : Response) :
    (s.putResponse t r).slots = s.slots := rfl
@[simp] theorem State.putResponse_links (s : State) (t : HostTag) (r : Response) :
    (s.putResponse t r).links = s.links := rfl
@[simp] theorem State.putResponse_identQueue (s : State) (t : HostTag) (r : Response) :
    (s.putResponse t r).identQueue = s.identQueue := rfl
@[simp] theorem State.putResponse_ident (s : State) (t : HostTag) (r : Response) :
    (s.putResponse t r).ident = s.ident := rfl
@[simp] theorem State.putResponse_sources (s : State) (t : HostTag) (r : Response) :
    (s.putResponse t r).sources = s.sources := rfl
@[simp] theorem State.putResponse_lines (s : State) (t : HostTag) (r : Response) :
    (s.putResponse t r).lines = s.lines := rfl
@[simp] theorem State.putResponse_engine (s : State) (t : HostTag) (r : Response) :
    (s.putResponse t r).engine = s.engine := rfl
@[simp] theorem State.putResponse_config (s : State) (t : HostTag) (r : Response) :
    (s.putResponse t r).config = s.config := rfl
@[simp] theorem State.putResponse_tickets (s : State) (t : HostTag) (r : Response) :
    (s.putResponse t r).tickets = s.tickets := rfl
@[simp] theorem State.putResponse_out (s : State) (t : HostTag) (r : Response) :
    (s.putResponse t r).out = { s.out with responses := s.out.responses.put t (some r) } := rfl
@[simp] theorem State.putResponse_pending (s : State) (t : HostTag) (r : Response) :
    (s.putResponse t r).pending = s.pending := rfl

/-! ### A packet sent -/

@[simp] theorem State.send_partReset (s : State) (n : SlotIx) (p : Packet) :
    (s.send n p).partReset = s.partReset := rfl
@[simp] theorem State.send_hostReset (s : State) (n : SlotIx) (p : Packet) :
    (s.send n p).hostReset = s.hostReset := rfl
@[simp] theorem State.send_apStrap (s : State) (n : SlotIx) (p : Packet) : (s.send n p).apStrap = s.apStrap := rfl
@[simp] theorem State.send_cbStrap (s : State) (n : SlotIx) (p : Packet) : (s.send n p).cbStrap = s.cbStrap := rfl
@[simp] theorem State.send_presence (s : State) (n : SlotIx) (p : Packet) : (s.send n p).presence = s.presence := rfl
@[simp] theorem State.send_powerGood (s : State) (n : SlotIx) (p : Packet) :
    (s.send n p).powerGood = s.powerGood := rfl
@[simp] theorem State.send_hostTable (s : State) (n : SlotIx) (p : Packet) :
    (s.send n p).hostTable = s.hostTable := rfl
@[simp] theorem State.send_windows (s : State) (n : SlotIx) (p : Packet) : (s.send n p).windows = s.windows := rfl
@[simp] theorem State.send_slots (s : State) (n : SlotIx) (p : Packet) : (s.send n p).slots = s.slots := rfl
@[simp] theorem State.send_links (s : State) (n : SlotIx) (p : Packet) : (s.send n p).links = s.links := rfl
@[simp] theorem State.send_identQueue (s : State) (n : SlotIx) (p : Packet) :
    (s.send n p).identQueue = s.identQueue := rfl
@[simp] theorem State.send_ident (s : State) (n : SlotIx) (p : Packet) : (s.send n p).ident = s.ident := rfl
@[simp] theorem State.send_sources (s : State) (n : SlotIx) (p : Packet) : (s.send n p).sources = s.sources := rfl
@[simp] theorem State.send_lines (s : State) (n : SlotIx) (p : Packet) : (s.send n p).lines = s.lines := rfl
@[simp] theorem State.send_engine (s : State) (n : SlotIx) (p : Packet) : (s.send n p).engine = s.engine := rfl
@[simp] theorem State.send_config (s : State) (n : SlotIx) (p : Packet) : (s.send n p).config = s.config := rfl
@[simp] theorem State.send_tickets (s : State) (n : SlotIx) (p : Packet) : (s.send n p).tickets = s.tickets := rfl
@[simp] theorem State.send_out (s : State) (n : SlotIx) (p : Packet) :
    (s.send n p).out = { s.out with packets := s.out.packets.put n (some p) } := rfl
@[simp] theorem State.send_pending (s : State) (n : SlotIx) (p : Packet) : (s.send n p).pending = s.pending := rfl

/-! ### The identification link -/

@[simp] theorem State.onIdentLink_partReset (s : State) (items : List BusItem) :
    (s.onIdentLink items).partReset = s.partReset := rfl
@[simp] theorem State.onIdentLink_hostReset (s : State) (items : List BusItem) :
    (s.onIdentLink items).hostReset = s.hostReset := rfl
@[simp] theorem State.onIdentLink_apStrap (s : State) (items : List BusItem) :
    (s.onIdentLink items).apStrap = s.apStrap := rfl
@[simp] theorem State.onIdentLink_cbStrap (s : State) (items : List BusItem) :
    (s.onIdentLink items).cbStrap = s.cbStrap := rfl
@[simp] theorem State.onIdentLink_presence (s : State) (items : List BusItem) :
    (s.onIdentLink items).presence = s.presence := rfl
@[simp] theorem State.onIdentLink_powerGood (s : State) (items : List BusItem) :
    (s.onIdentLink items).powerGood = s.powerGood := rfl
@[simp] theorem State.onIdentLink_hostTable (s : State) (items : List BusItem) :
    (s.onIdentLink items).hostTable = s.hostTable := rfl
@[simp] theorem State.onIdentLink_windows (s : State) (items : List BusItem) :
    (s.onIdentLink items).windows = s.windows := rfl
@[simp] theorem State.onIdentLink_slots (s : State) (items : List BusItem) :
    (s.onIdentLink items).slots = s.slots := rfl
@[simp] theorem State.onIdentLink_links (s : State) (items : List BusItem) :
    (s.onIdentLink items).links = s.links := rfl
@[simp] theorem State.onIdentLink_identQueue (s : State) (items : List BusItem) :
    (s.onIdentLink items).identQueue = s.identQueue := rfl
@[simp] theorem State.onIdentLink_ident (s : State) (items : List BusItem) :
    (s.onIdentLink items).ident = s.ident := rfl
@[simp] theorem State.onIdentLink_sources (s : State) (items : List BusItem) :
    (s.onIdentLink items).sources = s.sources := rfl
@[simp] theorem State.onIdentLink_lines (s : State) (items : List BusItem) :
    (s.onIdentLink items).lines = s.lines := rfl
@[simp] theorem State.onIdentLink_engine (s : State) (items : List BusItem) :
    (s.onIdentLink items).engine = s.engine := rfl
@[simp] theorem State.onIdentLink_config (s : State) (items : List BusItem) :
    (s.onIdentLink items).config = s.config := rfl
@[simp] theorem State.onIdentLink_tickets (s : State) (items : List BusItem) :
    (s.onIdentLink items).tickets = s.tickets := rfl
@[simp] theorem State.onIdentLink_out (s : State) (items : List BusItem) :
    (s.onIdentLink items).out = { s.out with ident := items } := rfl
@[simp] theorem State.onIdentLink_pending (s : State) (items : List BusItem) :
    (s.onIdentLink items).pending = s.pending := rfl

/-! ### A cause raised -/

@[simp] theorem State.raise_partReset (s : State) (c : Cause) : (s.raise c).partReset = s.partReset := rfl
@[simp] theorem State.raise_hostReset (s : State) (c : Cause) : (s.raise c).hostReset = s.hostReset := rfl
@[simp] theorem State.raise_apStrap (s : State) (c : Cause) : (s.raise c).apStrap = s.apStrap := rfl
@[simp] theorem State.raise_cbStrap (s : State) (c : Cause) : (s.raise c).cbStrap = s.cbStrap := rfl
@[simp] theorem State.raise_presence (s : State) (c : Cause) : (s.raise c).presence = s.presence := rfl
@[simp] theorem State.raise_powerGood (s : State) (c : Cause) : (s.raise c).powerGood = s.powerGood := rfl
@[simp] theorem State.raise_hostTable (s : State) (c : Cause) : (s.raise c).hostTable = s.hostTable := rfl
@[simp] theorem State.raise_windows (s : State) (c : Cause) : (s.raise c).windows = s.windows := rfl
@[simp] theorem State.raise_slots (s : State) (c : Cause) : (s.raise c).slots = s.slots := rfl
@[simp] theorem State.raise_links (s : State) (c : Cause) : (s.raise c).links = s.links := rfl
@[simp] theorem State.raise_identQueue (s : State) (c : Cause) : (s.raise c).identQueue = s.identQueue := rfl
@[simp] theorem State.raise_ident (s : State) (c : Cause) : (s.raise c).ident = s.ident := rfl
@[simp] theorem State.raise_sources (s : State) (c : Cause) :
    (s.raise c).sources = s.sources.put c.source ((s.sources.get c.source).add c.bit) := rfl
@[simp] theorem State.raise_lines (s : State) (c : Cause) : (s.raise c).lines = s.lines := rfl
@[simp] theorem State.raise_engine (s : State) (c : Cause) : (s.raise c).engine = s.engine := rfl
@[simp] theorem State.raise_config (s : State) (c : Cause) : (s.raise c).config = s.config := rfl
@[simp] theorem State.raise_tickets (s : State) (c : Cause) : (s.raise c).tickets = s.tickets := rfl
@[simp] theorem State.raise_out (s : State) (c : Cause) : (s.raise c).out = s.out := rfl
@[simp] theorem State.raise_pending (s : State) (c : Cause) : (s.raise c).pending = s.pending := rfl

/-! ### A response given -/

@[simp] theorem State.answer_partReset (s : State) (t : HostTag) (code : RespCode) (data : Option Word) :
    (s.answer t code data).partReset = s.partReset := rfl
@[simp] theorem State.answer_hostReset (s : State) (t : HostTag) (code : RespCode) (data : Option Word) :
    (s.answer t code data).hostReset = s.hostReset := rfl
@[simp] theorem State.answer_apStrap (s : State) (t : HostTag) (code : RespCode) (data : Option Word) :
    (s.answer t code data).apStrap = s.apStrap := rfl
@[simp] theorem State.answer_cbStrap (s : State) (t : HostTag) (code : RespCode) (data : Option Word) :
    (s.answer t code data).cbStrap = s.cbStrap := rfl
@[simp] theorem State.answer_presence (s : State) (t : HostTag) (code : RespCode) (data : Option Word) :
    (s.answer t code data).presence = s.presence := rfl
@[simp] theorem State.answer_powerGood (s : State) (t : HostTag) (code : RespCode) (data : Option Word) :
    (s.answer t code data).powerGood = s.powerGood := rfl
@[simp] theorem State.answer_hostTable (s : State) (t : HostTag) (code : RespCode) (data : Option Word) :
    (s.answer t code data).hostTable = s.hostTable.put t false := rfl
@[simp] theorem State.answer_windows (s : State) (t : HostTag) (code : RespCode) (data : Option Word) :
    (s.answer t code data).windows = s.windows := rfl
@[simp] theorem State.answer_slots (s : State) (t : HostTag) (code : RespCode) (data : Option Word) :
    (s.answer t code data).slots = s.slots := rfl
@[simp] theorem State.answer_links (s : State) (t : HostTag) (code : RespCode) (data : Option Word) :
    (s.answer t code data).links = s.links := rfl
@[simp] theorem State.answer_identQueue (s : State) (t : HostTag) (code : RespCode) (data : Option Word) :
    (s.answer t code data).identQueue = s.identQueue := rfl
@[simp] theorem State.answer_ident (s : State) (t : HostTag) (code : RespCode) (data : Option Word) :
    (s.answer t code data).ident = s.ident := rfl
@[simp] theorem State.answer_sources (s : State) (t : HostTag) (code : RespCode) (data : Option Word) :
    (s.answer t code data).sources = s.sources := rfl
@[simp] theorem State.answer_lines (s : State) (t : HostTag) (code : RespCode) (data : Option Word) :
    (s.answer t code data).lines = s.lines := rfl
@[simp] theorem State.answer_engine (s : State) (t : HostTag) (code : RespCode) (data : Option Word) :
    (s.answer t code data).engine = s.engine := rfl
@[simp] theorem State.answer_config (s : State) (t : HostTag) (code : RespCode) (data : Option Word) :
    (s.answer t code data).config = s.config := rfl
@[simp] theorem State.answer_tickets (s : State) (t : HostTag) (code : RespCode) (data : Option Word) :
    (s.answer t code data).tickets = s.tickets := rfl
@[simp] theorem State.answer_out (s : State) (t : HostTag) (code : RespCode) (data : Option Word) :
    (s.answer t code data).out = { s.out with responses := s.out.responses.put t (some { code := code, data := data }) } := rfl
@[simp] theorem State.answer_pending (s : State) (t : HostTag) (code : RespCode) (data : Option Word) :
    (s.answer t code data).pending = s.pending := rfl

end Sys2Proof.Machine
end

