-- ==== Sys2Proof/Laws/Frames.lean ====
section
/-! SUPPORT. What each shared operation leaves unchanged: one lemma per field outside its own. -/

namespace Sys2Proof.Machine

/-! ### A ticket completed changes the Ticket Table and the COMMAND causes (R143) -/

@[simp] theorem State.finishTicket_partReset (s : State) (k : Fin 8) (o : TicketOutcome) (d : Option TicketDetail) :
    (s.finishTicket k o d).partReset = s.partReset := by
  unfold State.finishTicket; split <;> simp
@[simp] theorem State.finishTicket_hostReset (s : State) (k : Fin 8) (o : TicketOutcome) (d : Option TicketDetail) :
    (s.finishTicket k o d).hostReset = s.hostReset := by
  unfold State.finishTicket; split <;> simp
@[simp] theorem State.finishTicket_apStrap (s : State) (k : Fin 8) (o : TicketOutcome) (d : Option TicketDetail) :
    (s.finishTicket k o d).apStrap = s.apStrap := by
  unfold State.finishTicket; split <;> simp
@[simp] theorem State.finishTicket_cbStrap (s : State) (k : Fin 8) (o : TicketOutcome) (d : Option TicketDetail) :
    (s.finishTicket k o d).cbStrap = s.cbStrap := by
  unfold State.finishTicket; split <;> simp
@[simp] theorem State.finishTicket_presence (s : State) (k : Fin 8) (o : TicketOutcome) (d : Option TicketDetail) :
    (s.finishTicket k o d).presence = s.presence := by
  unfold State.finishTicket; split <;> simp
@[simp] theorem State.finishTicket_powerGood (s : State) (k : Fin 8) (o : TicketOutcome) (d : Option TicketDetail) :
    (s.finishTicket k o d).powerGood = s.powerGood := by
  unfold State.finishTicket; split <;> simp
@[simp] theorem State.finishTicket_hostTable (s : State) (k : Fin 8) (o : TicketOutcome) (d : Option TicketDetail) :
    (s.finishTicket k o d).hostTable = s.hostTable := by
  unfold State.finishTicket; split <;> simp
@[simp] theorem State.finishTicket_windows (s : State) (k : Fin 8) (o : TicketOutcome) (d : Option TicketDetail) :
    (s.finishTicket k o d).windows = s.windows := by
  unfold State.finishTicket; split <;> simp
@[simp] theorem State.finishTicket_slots (s : State) (k : Fin 8) (o : TicketOutcome) (d : Option TicketDetail) :
    (s.finishTicket k o d).slots = s.slots := by
  unfold State.finishTicket; split <;> simp
@[simp] theorem State.finishTicket_links (s : State) (k : Fin 8) (o : TicketOutcome) (d : Option TicketDetail) :
    (s.finishTicket k o d).links = s.links := by
  unfold State.finishTicket; split <;> simp
@[simp] theorem State.finishTicket_identQueue (s : State) (k : Fin 8) (o : TicketOutcome) (d : Option TicketDetail) :
    (s.finishTicket k o d).identQueue = s.identQueue := by
  unfold State.finishTicket; split <;> simp
@[simp] theorem State.finishTicket_ident (s : State) (k : Fin 8) (o : TicketOutcome) (d : Option TicketDetail) :
    (s.finishTicket k o d).ident = s.ident := by
  unfold State.finishTicket; split <;> simp
@[simp] theorem State.finishTicket_lines (s : State) (k : Fin 8) (o : TicketOutcome) (d : Option TicketDetail) :
    (s.finishTicket k o d).lines = s.lines := by
  unfold State.finishTicket; split <;> simp
@[simp] theorem State.finishTicket_engine (s : State) (k : Fin 8) (o : TicketOutcome) (d : Option TicketDetail) :
    (s.finishTicket k o d).engine = s.engine := by
  unfold State.finishTicket; split <;> simp
@[simp] theorem State.finishTicket_config (s : State) (k : Fin 8) (o : TicketOutcome) (d : Option TicketDetail) :
    (s.finishTicket k o d).config = s.config := by
  unfold State.finishTicket; split <;> simp
@[simp] theorem State.finishTicket_out (s : State) (k : Fin 8) (o : TicketOutcome) (d : Option TicketDetail) :
    (s.finishTicket k o d).out = s.out := by
  unfold State.finishTicket; split <;> simp
@[simp] theorem State.finishTicket_pending (s : State) (k : Fin 8) (o : TicketOutcome) (d : Option TicketDetail) :
    (s.finishTicket k o d).pending = s.pending := by
  unfold State.finishTicket; split <;> simp

/-! ### A close ticket completed (R20, R143) -/

@[simp] theorem State.finishTicketById_partReset (s : State) (id : Nat) (o : TicketOutcome) (d : Option TicketDetail) :
    (s.finishTicketById id o d).partReset = s.partReset := by
  unfold State.finishTicketById; split <;> simp
@[simp] theorem State.finishTicketById_hostReset (s : State) (id : Nat) (o : TicketOutcome) (d : Option TicketDetail) :
    (s.finishTicketById id o d).hostReset = s.hostReset := by
  unfold State.finishTicketById; split <;> simp
@[simp] theorem State.finishTicketById_apStrap (s : State) (id : Nat) (o : TicketOutcome) (d : Option TicketDetail) :
    (s.finishTicketById id o d).apStrap = s.apStrap := by
  unfold State.finishTicketById; split <;> simp
@[simp] theorem State.finishTicketById_cbStrap (s : State) (id : Nat) (o : TicketOutcome) (d : Option TicketDetail) :
    (s.finishTicketById id o d).cbStrap = s.cbStrap := by
  unfold State.finishTicketById; split <;> simp
@[simp] theorem State.finishTicketById_presence (s : State) (id : Nat) (o : TicketOutcome) (d : Option TicketDetail) :
    (s.finishTicketById id o d).presence = s.presence := by
  unfold State.finishTicketById; split <;> simp
@[simp] theorem State.finishTicketById_powerGood (s : State) (id : Nat) (o : TicketOutcome) (d : Option TicketDetail) :
    (s.finishTicketById id o d).powerGood = s.powerGood := by
  unfold State.finishTicketById; split <;> simp
@[simp] theorem State.finishTicketById_hostTable (s : State) (id : Nat) (o : TicketOutcome) (d : Option TicketDetail) :
    (s.finishTicketById id o d).hostTable = s.hostTable := by
  unfold State.finishTicketById; split <;> simp
@[simp] theorem State.finishTicketById_windows (s : State) (id : Nat) (o : TicketOutcome) (d : Option TicketDetail) :
    (s.finishTicketById id o d).windows = s.windows := by
  unfold State.finishTicketById; split <;> simp
@[simp] theorem State.finishTicketById_slots (s : State) (id : Nat) (o : TicketOutcome) (d : Option TicketDetail) :
    (s.finishTicketById id o d).slots = s.slots := by
  unfold State.finishTicketById; split <;> simp
@[simp] theorem State.finishTicketById_links (s : State) (id : Nat) (o : TicketOutcome) (d : Option TicketDetail) :
    (s.finishTicketById id o d).links = s.links := by
  unfold State.finishTicketById; split <;> simp
@[simp] theorem State.finishTicketById_identQueue (s : State) (id : Nat) (o : TicketOutcome) (d : Option TicketDetail) :
    (s.finishTicketById id o d).identQueue = s.identQueue := by
  unfold State.finishTicketById; split <;> simp
@[simp] theorem State.finishTicketById_ident (s : State) (id : Nat) (o : TicketOutcome) (d : Option TicketDetail) :
    (s.finishTicketById id o d).ident = s.ident := by
  unfold State.finishTicketById; split <;> simp
@[simp] theorem State.finishTicketById_lines (s : State) (id : Nat) (o : TicketOutcome) (d : Option TicketDetail) :
    (s.finishTicketById id o d).lines = s.lines := by
  unfold State.finishTicketById; split <;> simp
@[simp] theorem State.finishTicketById_engine (s : State) (id : Nat) (o : TicketOutcome) (d : Option TicketDetail) :
    (s.finishTicketById id o d).engine = s.engine := by
  unfold State.finishTicketById; split <;> simp
@[simp] theorem State.finishTicketById_config (s : State) (id : Nat) (o : TicketOutcome) (d : Option TicketDetail) :
    (s.finishTicketById id o d).config = s.config := by
  unfold State.finishTicketById; split <;> simp
@[simp] theorem State.finishTicketById_out (s : State) (id : Nat) (o : TicketOutcome) (d : Option TicketDetail) :
    (s.finishTicketById id o d).out = s.out := by
  unfold State.finishTicketById; split <;> simp
@[simp] theorem State.finishTicketById_pending (s : State) (id : Nat) (o : TicketOutcome) (d : Option TicketDetail) :
    (s.finishTicketById id o d).pending = s.pending := by
  unfold State.finishTicketById; split <;> simp

/-! ### A slot ticket completed (3.10) -/

@[simp] theorem State.finishSlotTicket_partReset (s : State) (n : SlotIx) (o : TicketOutcome) (d : Option TicketDetail) :
    (s.finishSlotTicket n o d).partReset = s.partReset := by
  unfold State.finishSlotTicket; split <;> simp
@[simp] theorem State.finishSlotTicket_hostReset (s : State) (n : SlotIx) (o : TicketOutcome) (d : Option TicketDetail) :
    (s.finishSlotTicket n o d).hostReset = s.hostReset := by
  unfold State.finishSlotTicket; split <;> simp
@[simp] theorem State.finishSlotTicket_apStrap (s : State) (n : SlotIx) (o : TicketOutcome) (d : Option TicketDetail) :
    (s.finishSlotTicket n o d).apStrap = s.apStrap := by
  unfold State.finishSlotTicket; split <;> simp
@[simp] theorem State.finishSlotTicket_cbStrap (s : State) (n : SlotIx) (o : TicketOutcome) (d : Option TicketDetail) :
    (s.finishSlotTicket n o d).cbStrap = s.cbStrap := by
  unfold State.finishSlotTicket; split <;> simp
@[simp] theorem State.finishSlotTicket_presence (s : State) (n : SlotIx) (o : TicketOutcome) (d : Option TicketDetail) :
    (s.finishSlotTicket n o d).presence = s.presence := by
  unfold State.finishSlotTicket; split <;> simp
@[simp] theorem State.finishSlotTicket_powerGood (s : State) (n : SlotIx) (o : TicketOutcome) (d : Option TicketDetail) :
    (s.finishSlotTicket n o d).powerGood = s.powerGood := by
  unfold State.finishSlotTicket; split <;> simp
@[simp] theorem State.finishSlotTicket_hostTable (s : State) (n : SlotIx) (o : TicketOutcome) (d : Option TicketDetail) :
    (s.finishSlotTicket n o d).hostTable = s.hostTable := by
  unfold State.finishSlotTicket; split <;> simp
@[simp] theorem State.finishSlotTicket_windows (s : State) (n : SlotIx) (o : TicketOutcome) (d : Option TicketDetail) :
    (s.finishSlotTicket n o d).windows = s.windows := by
  unfold State.finishSlotTicket; split <;> simp
@[simp] theorem State.finishSlotTicket_slots (s : State) (n : SlotIx) (o : TicketOutcome) (d : Option TicketDetail) :
    (s.finishSlotTicket n o d).slots = s.slots := by
  unfold State.finishSlotTicket; split <;> simp
@[simp] theorem State.finishSlotTicket_links (s : State) (n : SlotIx) (o : TicketOutcome) (d : Option TicketDetail) :
    (s.finishSlotTicket n o d).links = s.links := by
  unfold State.finishSlotTicket; split <;> simp
@[simp] theorem State.finishSlotTicket_identQueue (s : State) (n : SlotIx) (o : TicketOutcome) (d : Option TicketDetail) :
    (s.finishSlotTicket n o d).identQueue = s.identQueue := by
  unfold State.finishSlotTicket; split <;> simp
@[simp] theorem State.finishSlotTicket_ident (s : State) (n : SlotIx) (o : TicketOutcome) (d : Option TicketDetail) :
    (s.finishSlotTicket n o d).ident = s.ident := by
  unfold State.finishSlotTicket; split <;> simp
@[simp] theorem State.finishSlotTicket_lines (s : State) (n : SlotIx) (o : TicketOutcome) (d : Option TicketDetail) :
    (s.finishSlotTicket n o d).lines = s.lines := by
  unfold State.finishSlotTicket; split <;> simp
@[simp] theorem State.finishSlotTicket_engine (s : State) (n : SlotIx) (o : TicketOutcome) (d : Option TicketDetail) :
    (s.finishSlotTicket n o d).engine = s.engine := by
  unfold State.finishSlotTicket; split <;> simp
@[simp] theorem State.finishSlotTicket_config (s : State) (n : SlotIx) (o : TicketOutcome) (d : Option TicketDetail) :
    (s.finishSlotTicket n o d).config = s.config := by
  unfold State.finishSlotTicket; split <;> simp
@[simp] theorem State.finishSlotTicket_out (s : State) (n : SlotIx) (o : TicketOutcome) (d : Option TicketDetail) :
    (s.finishSlotTicket n o d).out = s.out := by
  unfold State.finishSlotTicket; split <;> simp
@[simp] theorem State.finishSlotTicket_pending (s : State) (n : SlotIx) (o : TicketOutcome) (d : Option TicketDetail) :
    (s.finishSlotTicket n o d).pending = s.pending := by
  unfold State.finishSlotTicket; split <;> simp

/-! ### A drain changes one window, and the ticket it completes (R20) -/

@[simp] theorem State.drain_partReset (s : State) (w : WinIx) (m : Mapping) (d : Disposition) (t : Option Nat) :
    (s.drain w m d t).partReset = s.partReset := by
  unfold State.drain; split <;> simp
@[simp] theorem State.drain_hostReset (s : State) (w : WinIx) (m : Mapping) (d : Disposition) (t : Option Nat) :
    (s.drain w m d t).hostReset = s.hostReset := by
  unfold State.drain; split <;> simp
@[simp] theorem State.drain_apStrap (s : State) (w : WinIx) (m : Mapping) (d : Disposition) (t : Option Nat) :
    (s.drain w m d t).apStrap = s.apStrap := by
  unfold State.drain; split <;> simp
@[simp] theorem State.drain_cbStrap (s : State) (w : WinIx) (m : Mapping) (d : Disposition) (t : Option Nat) :
    (s.drain w m d t).cbStrap = s.cbStrap := by
  unfold State.drain; split <;> simp
@[simp] theorem State.drain_presence (s : State) (w : WinIx) (m : Mapping) (d : Disposition) (t : Option Nat) :
    (s.drain w m d t).presence = s.presence := by
  unfold State.drain; split <;> simp
@[simp] theorem State.drain_powerGood (s : State) (w : WinIx) (m : Mapping) (d : Disposition) (t : Option Nat) :
    (s.drain w m d t).powerGood = s.powerGood := by
  unfold State.drain; split <;> simp
@[simp] theorem State.drain_hostTable (s : State) (w : WinIx) (m : Mapping) (d : Disposition) (t : Option Nat) :
    (s.drain w m d t).hostTable = s.hostTable := by
  unfold State.drain; split <;> simp
@[simp] theorem State.drain_slots (s : State) (w : WinIx) (m : Mapping) (d : Disposition) (t : Option Nat) :
    (s.drain w m d t).slots = s.slots := by
  unfold State.drain; split <;> simp
@[simp] theorem State.drain_links (s : State) (w : WinIx) (m : Mapping) (d : Disposition) (t : Option Nat) :
    (s.drain w m d t).links = s.links := by
  unfold State.drain; split <;> simp
@[simp] theorem State.drain_identQueue (s : State) (w : WinIx) (m : Mapping) (d : Disposition) (t : Option Nat) :
    (s.drain w m d t).identQueue = s.identQueue := by
  unfold State.drain; split <;> simp
@[simp] theorem State.drain_ident (s : State) (w : WinIx) (m : Mapping) (d : Disposition) (t : Option Nat) :
    (s.drain w m d t).ident = s.ident := by
  unfold State.drain; split <;> simp
@[simp] theorem State.drain_lines (s : State) (w : WinIx) (m : Mapping) (d : Disposition) (t : Option Nat) :
    (s.drain w m d t).lines = s.lines := by
  unfold State.drain; split <;> simp
@[simp] theorem State.drain_engine (s : State) (w : WinIx) (m : Mapping) (d : Disposition) (t : Option Nat) :
    (s.drain w m d t).engine = s.engine := by
  unfold State.drain; split <;> simp
@[simp] theorem State.drain_config (s : State) (w : WinIx) (m : Mapping) (d : Disposition) (t : Option Nat) :
    (s.drain w m d t).config = s.config := by
  unfold State.drain; split <;> simp
@[simp] theorem State.drain_out (s : State) (w : WinIx) (m : Mapping) (d : Disposition) (t : Option Nat) :
    (s.drain w m d t).out = s.out := by
  unfold State.drain; split <;> simp
@[simp] theorem State.drain_pending (s : State) (w : WinIx) (m : Mapping) (d : Disposition) (t : Option Nat) :
    (s.drain w m d t).pending = s.pending := by
  unfold State.drain; split <;> simp

/-! ### A released reference changes what a drain changes (R19) -/

@[simp] theorem State.releaseRef_partReset (s : State) (w : WinIx) :
    (s.releaseRef w).partReset = s.partReset := by
  unfold State.releaseRef; split <;> [rfl; rfl; simp; (split <;> simp)]
@[simp] theorem State.releaseRef_hostReset (s : State) (w : WinIx) :
    (s.releaseRef w).hostReset = s.hostReset := by
  unfold State.releaseRef; split <;> [rfl; rfl; simp; (split <;> simp)]
@[simp] theorem State.releaseRef_apStrap (s : State) (w : WinIx) : (s.releaseRef w).apStrap = s.apStrap := by
  unfold State.releaseRef; split <;> [rfl; rfl; simp; (split <;> simp)]
@[simp] theorem State.releaseRef_cbStrap (s : State) (w : WinIx) : (s.releaseRef w).cbStrap = s.cbStrap := by
  unfold State.releaseRef; split <;> [rfl; rfl; simp; (split <;> simp)]
@[simp] theorem State.releaseRef_presence (s : State) (w : WinIx) : (s.releaseRef w).presence = s.presence := by
  unfold State.releaseRef; split <;> [rfl; rfl; simp; (split <;> simp)]
@[simp] theorem State.releaseRef_powerGood (s : State) (w : WinIx) :
    (s.releaseRef w).powerGood = s.powerGood := by
  unfold State.releaseRef; split <;> [rfl; rfl; simp; (split <;> simp)]
@[simp] theorem State.releaseRef_hostTable (s : State) (w : WinIx) :
    (s.releaseRef w).hostTable = s.hostTable := by
  unfold State.releaseRef; split <;> [rfl; rfl; simp; (split <;> simp)]
@[simp] theorem State.releaseRef_slots (s : State) (w : WinIx) : (s.releaseRef w).slots = s.slots := by
  unfold State.releaseRef; split <;> [rfl; rfl; simp; (split <;> simp)]
@[simp] theorem State.releaseRef_links (s : State) (w : WinIx) : (s.releaseRef w).links = s.links := by
  unfold State.releaseRef; split <;> [rfl; rfl; simp; (split <;> simp)]
@[simp] theorem State.releaseRef_identQueue (s : State) (w : WinIx) :
    (s.releaseRef w).identQueue = s.identQueue := by
  unfold State.releaseRef; split <;> [rfl; rfl; simp; (split <;> simp)]
@[simp] theorem State.releaseRef_ident (s : State) (w : WinIx) : (s.releaseRef w).ident = s.ident := by
  unfold State.releaseRef; split <;> [rfl; rfl; simp; (split <;> simp)]
@[simp] theorem State.releaseRef_lines (s : State) (w : WinIx) : (s.releaseRef w).lines = s.lines := by
  unfold State.releaseRef; split <;> [rfl; rfl; simp; (split <;> simp)]
@[simp] theorem State.releaseRef_engine (s : State) (w : WinIx) : (s.releaseRef w).engine = s.engine := by
  unfold State.releaseRef; split <;> [rfl; rfl; simp; (split <;> simp)]
@[simp] theorem State.releaseRef_config (s : State) (w : WinIx) : (s.releaseRef w).config = s.config := by
  unfold State.releaseRef; split <;> [rfl; rfl; simp; (split <;> simp)]
@[simp] theorem State.releaseRef_out (s : State) (w : WinIx) : (s.releaseRef w).out = s.out := by
  unfold State.releaseRef; split <;> [rfl; rfl; simp; (split <;> simp)]
@[simp] theorem State.releaseRef_pending (s : State) (w : WinIx) : (s.releaseRef w).pending = s.pending := by
  unfold State.releaseRef; split <;> [rfl; rfl; simp; (split <;> simp)]

/-! ### A posted failure changes the slot record and the SLOT causes (R67) -/

@[simp] theorem State.recordPosted_partReset (s : State) (n : SlotIx) (w : WinIx) (a : Word) (c : PostedCause) :
    (s.recordPosted n w a c).partReset = s.partReset := by
  unfold State.recordPosted; split <;> [simp; (split <;> simp)]
@[simp] theorem State.recordPosted_hostReset (s : State) (n : SlotIx) (w : WinIx) (a : Word) (c : PostedCause) :
    (s.recordPosted n w a c).hostReset = s.hostReset := by
  unfold State.recordPosted; split <;> [simp; (split <;> simp)]
@[simp] theorem State.recordPosted_apStrap (s : State) (n : SlotIx) (w : WinIx) (a : Word) (c : PostedCause) :
    (s.recordPosted n w a c).apStrap = s.apStrap := by
  unfold State.recordPosted; split <;> [simp; (split <;> simp)]
@[simp] theorem State.recordPosted_cbStrap (s : State) (n : SlotIx) (w : WinIx) (a : Word) (c : PostedCause) :
    (s.recordPosted n w a c).cbStrap = s.cbStrap := by
  unfold State.recordPosted; split <;> [simp; (split <;> simp)]
@[simp] theorem State.recordPosted_presence (s : State) (n : SlotIx) (w : WinIx) (a : Word) (c : PostedCause) :
    (s.recordPosted n w a c).presence = s.presence := by
  unfold State.recordPosted; split <;> [simp; (split <;> simp)]
@[simp] theorem State.recordPosted_powerGood (s : State) (n : SlotIx) (w : WinIx) (a : Word) (c : PostedCause) :
    (s.recordPosted n w a c).powerGood = s.powerGood := by
  unfold State.recordPosted; split <;> [simp; (split <;> simp)]
@[simp] theorem State.recordPosted_hostTable (s : State) (n : SlotIx) (w : WinIx) (a : Word) (c : PostedCause) :
    (s.recordPosted n w a c).hostTable = s.hostTable := by
  unfold State.recordPosted; split <;> [simp; (split <;> simp)]
@[simp] theorem State.recordPosted_windows (s : State) (n : SlotIx) (w : WinIx) (a : Word) (c : PostedCause) :
    (s.recordPosted n w a c).windows = s.windows := by
  unfold State.recordPosted; split <;> [simp; (split <;> simp)]
@[simp] theorem State.recordPosted_links (s : State) (n : SlotIx) (w : WinIx) (a : Word) (c : PostedCause) :
    (s.recordPosted n w a c).links = s.links := by
  unfold State.recordPosted; split <;> [simp; (split <;> simp)]
@[simp] theorem State.recordPosted_identQueue (s : State) (n : SlotIx) (w : WinIx) (a : Word) (c : PostedCause) :
    (s.recordPosted n w a c).identQueue = s.identQueue := by
  unfold State.recordPosted; split <;> [simp; (split <;> simp)]
@[simp] theorem State.recordPosted_ident (s : State) (n : SlotIx) (w : WinIx) (a : Word) (c : PostedCause) :
    (s.recordPosted n w a c).ident = s.ident := by
  unfold State.recordPosted; split <;> [simp; (split <;> simp)]
@[simp] theorem State.recordPosted_lines (s : State) (n : SlotIx) (w : WinIx) (a : Word) (c : PostedCause) :
    (s.recordPosted n w a c).lines = s.lines := by
  unfold State.recordPosted; split <;> [simp; (split <;> simp)]
@[simp] theorem State.recordPosted_engine (s : State) (n : SlotIx) (w : WinIx) (a : Word) (c : PostedCause) :
    (s.recordPosted n w a c).engine = s.engine := by
  unfold State.recordPosted; split <;> [simp; (split <;> simp)]
@[simp] theorem State.recordPosted_config (s : State) (n : SlotIx) (w : WinIx) (a : Word) (c : PostedCause) :
    (s.recordPosted n w a c).config = s.config := by
  unfold State.recordPosted; split <;> [simp; (split <;> simp)]
@[simp] theorem State.recordPosted_tickets (s : State) (n : SlotIx) (w : WinIx) (a : Word) (c : PostedCause) :
    (s.recordPosted n w a c).tickets = s.tickets := by
  unfold State.recordPosted; split <;> [simp; (split <;> simp)]
@[simp] theorem State.recordPosted_out (s : State) (n : SlotIx) (w : WinIx) (a : Word) (c : PostedCause) :
    (s.recordPosted n w a c).out = s.out := by
  unfold State.recordPosted; split <;> [simp; (split <;> simp)]
@[simp] theorem State.recordPosted_pending (s : State) (n : SlotIx) (w : WinIx) (a : Word) (c : PostedCause) :
    (s.recordPosted n w a c).pending = s.pending := by
  unfold State.recordPosted; split <;> [simp; (split <;> simp)]

/-! ### The end of an ejection (R69) -/

@[simp] theorem State.endEjection_partReset (s : State) (n : SlotIx) (o : TicketOutcome) :
    (s.endEjection n o).partReset = s.partReset := by
  simp [State.endEjection]
@[simp] theorem State.endEjection_hostReset (s : State) (n : SlotIx) (o : TicketOutcome) :
    (s.endEjection n o).hostReset = s.hostReset := by
  simp [State.endEjection]
@[simp] theorem State.endEjection_apStrap (s : State) (n : SlotIx) (o : TicketOutcome) :
    (s.endEjection n o).apStrap = s.apStrap := by
  simp [State.endEjection]
@[simp] theorem State.endEjection_cbStrap (s : State) (n : SlotIx) (o : TicketOutcome) :
    (s.endEjection n o).cbStrap = s.cbStrap := by
  simp [State.endEjection]
@[simp] theorem State.endEjection_presence (s : State) (n : SlotIx) (o : TicketOutcome) :
    (s.endEjection n o).presence = s.presence := by
  simp [State.endEjection]
@[simp] theorem State.endEjection_powerGood (s : State) (n : SlotIx) (o : TicketOutcome) :
    (s.endEjection n o).powerGood = s.powerGood := by
  simp [State.endEjection]
@[simp] theorem State.endEjection_hostTable (s : State) (n : SlotIx) (o : TicketOutcome) :
    (s.endEjection n o).hostTable = s.hostTable := by
  simp [State.endEjection]
@[simp] theorem State.endEjection_windows (s : State) (n : SlotIx) (o : TicketOutcome) :
    (s.endEjection n o).windows = s.windows := by
  simp [State.endEjection]
@[simp] theorem State.endEjection_identQueue (s : State) (n : SlotIx) (o : TicketOutcome) :
    (s.endEjection n o).identQueue = s.identQueue := by
  simp [State.endEjection]
@[simp] theorem State.endEjection_ident (s : State) (n : SlotIx) (o : TicketOutcome) :
    (s.endEjection n o).ident = s.ident := by
  simp [State.endEjection]
@[simp] theorem State.endEjection_lines (s : State) (n : SlotIx) (o : TicketOutcome) :
    (s.endEjection n o).lines = s.lines := by
  simp [State.endEjection]
@[simp] theorem State.endEjection_engine (s : State) (n : SlotIx) (o : TicketOutcome) :
    (s.endEjection n o).engine = s.engine := by
  simp [State.endEjection]
@[simp] theorem State.endEjection_config (s : State) (n : SlotIx) (o : TicketOutcome) :
    (s.endEjection n o).config = s.config := by
  simp [State.endEjection]
@[simp] theorem State.endEjection_out (s : State) (n : SlotIx) (o : TicketOutcome) :
    (s.endEjection n o).out = s.out := by
  simp [State.endEjection]
@[simp] theorem State.endEjection_pending (s : State) (n : SlotIx) (o : TicketOutcome) :
    (s.endEjection n o).pending = s.pending := by
  simp [State.endEjection]

/-! ### The quiesce test (R68) -/

@[simp] theorem State.testQuiesce_partReset (s : State) (n : SlotIx) :
    (s.testQuiesce n).partReset = s.partReset := by
  unfold State.testQuiesce; split <;> simp
@[simp] theorem State.testQuiesce_hostReset (s : State) (n : SlotIx) :
    (s.testQuiesce n).hostReset = s.hostReset := by
  unfold State.testQuiesce; split <;> simp
@[simp] theorem State.testQuiesce_apStrap (s : State) (n : SlotIx) : (s.testQuiesce n).apStrap = s.apStrap := by
  unfold State.testQuiesce; split <;> simp
@[simp] theorem State.testQuiesce_cbStrap (s : State) (n : SlotIx) : (s.testQuiesce n).cbStrap = s.cbStrap := by
  unfold State.testQuiesce; split <;> simp
@[simp] theorem State.testQuiesce_presence (s : State) (n : SlotIx) :
    (s.testQuiesce n).presence = s.presence := by
  unfold State.testQuiesce; split <;> simp
@[simp] theorem State.testQuiesce_powerGood (s : State) (n : SlotIx) :
    (s.testQuiesce n).powerGood = s.powerGood := by
  unfold State.testQuiesce; split <;> simp
@[simp] theorem State.testQuiesce_hostTable (s : State) (n : SlotIx) :
    (s.testQuiesce n).hostTable = s.hostTable := by
  unfold State.testQuiesce; split <;> simp
@[simp] theorem State.testQuiesce_windows (s : State) (n : SlotIx) : (s.testQuiesce n).windows = s.windows := by
  unfold State.testQuiesce; split <;> simp
@[simp] theorem State.testQuiesce_identQueue (s : State) (n : SlotIx) :
    (s.testQuiesce n).identQueue = s.identQueue := by
  unfold State.testQuiesce; split <;> simp
@[simp] theorem State.testQuiesce_ident (s : State) (n : SlotIx) : (s.testQuiesce n).ident = s.ident := by
  unfold State.testQuiesce; split <;> simp
@[simp] theorem State.testQuiesce_sources (s : State) (n : SlotIx) : (s.testQuiesce n).sources = s.sources := by
  unfold State.testQuiesce; split <;> simp
@[simp] theorem State.testQuiesce_lines (s : State) (n : SlotIx) : (s.testQuiesce n).lines = s.lines := by
  unfold State.testQuiesce; split <;> simp
@[simp] theorem State.testQuiesce_engine (s : State) (n : SlotIx) : (s.testQuiesce n).engine = s.engine := by
  unfold State.testQuiesce; split <;> simp
@[simp] theorem State.testQuiesce_config (s : State) (n : SlotIx) : (s.testQuiesce n).config = s.config := by
  unfold State.testQuiesce; split <;> simp
@[simp] theorem State.testQuiesce_tickets (s : State) (n : SlotIx) : (s.testQuiesce n).tickets = s.tickets := by
  unfold State.testQuiesce; split <;> simp
@[simp] theorem State.testQuiesce_pending (s : State) (n : SlotIx) : (s.testQuiesce n).pending = s.pending := by
  unfold State.testQuiesce; split <;> simp

/-! ### The head of the Identification Queue taken into service (R76) -/

@[simp] theorem State.serveIdent_partReset (s : State) : (s.serveIdent).partReset = s.partReset := by
  unfold State.serveIdent; split <;> simp
@[simp] theorem State.serveIdent_hostReset (s : State) : (s.serveIdent).hostReset = s.hostReset := by
  unfold State.serveIdent; split <;> simp
@[simp] theorem State.serveIdent_apStrap (s : State) : (s.serveIdent).apStrap = s.apStrap := by
  unfold State.serveIdent; split <;> simp
@[simp] theorem State.serveIdent_cbStrap (s : State) : (s.serveIdent).cbStrap = s.cbStrap := by
  unfold State.serveIdent; split <;> simp
@[simp] theorem State.serveIdent_presence (s : State) : (s.serveIdent).presence = s.presence := by
  unfold State.serveIdent; split <;> simp
@[simp] theorem State.serveIdent_powerGood (s : State) : (s.serveIdent).powerGood = s.powerGood := by
  unfold State.serveIdent; split <;> simp
@[simp] theorem State.serveIdent_hostTable (s : State) : (s.serveIdent).hostTable = s.hostTable := by
  unfold State.serveIdent; split <;> simp
@[simp] theorem State.serveIdent_windows (s : State) : (s.serveIdent).windows = s.windows := by
  unfold State.serveIdent; split <;> simp
@[simp] theorem State.serveIdent_links (s : State) : (s.serveIdent).links = s.links := by
  unfold State.serveIdent; split <;> simp
@[simp] theorem State.serveIdent_sources (s : State) : (s.serveIdent).sources = s.sources := by
  unfold State.serveIdent; split <;> simp
@[simp] theorem State.serveIdent_lines (s : State) : (s.serveIdent).lines = s.lines := by
  unfold State.serveIdent; split <;> simp
@[simp] theorem State.serveIdent_engine (s : State) : (s.serveIdent).engine = s.engine := by
  unfold State.serveIdent; split <;> simp
@[simp] theorem State.serveIdent_config (s : State) : (s.serveIdent).config = s.config := by
  unfold State.serveIdent; split <;> simp
@[simp] theorem State.serveIdent_tickets (s : State) : (s.serveIdent).tickets = s.tickets := by
  unfold State.serveIdent; split <;> simp
@[simp] theorem State.serveIdent_out (s : State) : (s.serveIdent).out = s.out := by
  unfold State.serveIdent; split <;> simp
@[simp] theorem State.serveIdent_pending (s : State) : (s.serveIdent).pending = s.pending := by
  unfold State.serveIdent; split <;> simp

/-! ### A slot joins the Identification Queue (R75) -/

@[simp] theorem State.enqueueIdent_partReset (s : State) (n : SlotIx) :
    (s.enqueueIdent n).partReset = s.partReset := by
  simp [State.enqueueIdent]
@[simp] theorem State.enqueueIdent_hostReset (s : State) (n : SlotIx) :
    (s.enqueueIdent n).hostReset = s.hostReset := by
  simp [State.enqueueIdent]
@[simp] theorem State.enqueueIdent_apStrap (s : State) (n : SlotIx) :
    (s.enqueueIdent n).apStrap = s.apStrap := by
  simp [State.enqueueIdent]
@[simp] theorem State.enqueueIdent_cbStrap (s : State) (n : SlotIx) :
    (s.enqueueIdent n).cbStrap = s.cbStrap := by
  simp [State.enqueueIdent]
@[simp] theorem State.enqueueIdent_presence (s : State) (n : SlotIx) :
    (s.enqueueIdent n).presence = s.presence := by
  simp [State.enqueueIdent]
@[simp] theorem State.enqueueIdent_powerGood (s : State) (n : SlotIx) :
    (s.enqueueIdent n).powerGood = s.powerGood := by
  simp [State.enqueueIdent]
@[simp] theorem State.enqueueIdent_hostTable (s : State) (n : SlotIx) :
    (s.enqueueIdent n).hostTable = s.hostTable := by
  simp [State.enqueueIdent]
@[simp] theorem State.enqueueIdent_windows (s : State) (n : SlotIx) :
    (s.enqueueIdent n).windows = s.windows := by
  simp [State.enqueueIdent]
@[simp] theorem State.enqueueIdent_links (s : State) (n : SlotIx) : (s.enqueueIdent n).links = s.links := by
  simp [State.enqueueIdent]
@[simp] theorem State.enqueueIdent_sources (s : State) (n : SlotIx) :
    (s.enqueueIdent n).sources = s.sources := by
  simp [State.enqueueIdent]
@[simp] theorem State.enqueueIdent_lines (s : State) (n : SlotIx) : (s.enqueueIdent n).lines = s.lines := by
  simp [State.enqueueIdent]
@[simp] theorem State.enqueueIdent_engine (s : State) (n : SlotIx) : (s.enqueueIdent n).engine = s.engine := by
  simp [State.enqueueIdent]
@[simp] theorem State.enqueueIdent_config (s : State) (n : SlotIx) : (s.enqueueIdent n).config = s.config := by
  simp [State.enqueueIdent]
@[simp] theorem State.enqueueIdent_tickets (s : State) (n : SlotIx) :
    (s.enqueueIdent n).tickets = s.tickets := by
  simp [State.enqueueIdent]
@[simp] theorem State.enqueueIdent_out (s : State) (n : SlotIx) : (s.enqueueIdent n).out = s.out := by
  simp [State.enqueueIdent]
@[simp] theorem State.enqueueIdent_pending (s : State) (n : SlotIx) :
    (s.enqueueIdent n).pending = s.pending := by
  simp [State.enqueueIdent]

/-! ### The controller becomes IDLE (R76) -/

@[simp] theorem State.identIdle_partReset (s : State) : (s.identIdle).partReset = s.partReset := by
  simp [State.identIdle]
@[simp] theorem State.identIdle_hostReset (s : State) : (s.identIdle).hostReset = s.hostReset := by
  simp [State.identIdle]
@[simp] theorem State.identIdle_apStrap (s : State) : (s.identIdle).apStrap = s.apStrap := by
  simp [State.identIdle]
@[simp] theorem State.identIdle_cbStrap (s : State) : (s.identIdle).cbStrap = s.cbStrap := by
  simp [State.identIdle]
@[simp] theorem State.identIdle_presence (s : State) : (s.identIdle).presence = s.presence := by
  simp [State.identIdle]
@[simp] theorem State.identIdle_powerGood (s : State) : (s.identIdle).powerGood = s.powerGood := by
  simp [State.identIdle]
@[simp] theorem State.identIdle_hostTable (s : State) : (s.identIdle).hostTable = s.hostTable := by
  simp [State.identIdle]
@[simp] theorem State.identIdle_windows (s : State) : (s.identIdle).windows = s.windows := by
  simp [State.identIdle]
@[simp] theorem State.identIdle_links (s : State) : (s.identIdle).links = s.links := by
  simp [State.identIdle]
@[simp] theorem State.identIdle_sources (s : State) : (s.identIdle).sources = s.sources := by
  simp [State.identIdle]
@[simp] theorem State.identIdle_lines (s : State) : (s.identIdle).lines = s.lines := by
  simp [State.identIdle]
@[simp] theorem State.identIdle_engine (s : State) : (s.identIdle).engine = s.engine := by
  simp [State.identIdle]
@[simp] theorem State.identIdle_config (s : State) : (s.identIdle).config = s.config := by
  simp [State.identIdle]
@[simp] theorem State.identIdle_tickets (s : State) : (s.identIdle).tickets = s.tickets := by
  simp [State.identIdle]
@[simp] theorem State.identIdle_out (s : State) : (s.identIdle).out = s.out := by
  simp [State.identIdle]
@[simp] theorem State.identIdle_pending (s : State) : (s.identIdle).pending = s.pending := by
  simp [State.identIdle]

/-! ### A read fails (R84) -/

@[simp] theorem State.readFails_partReset (s : State) (r : ReadRecord) (c : FaultCause) :
    (s.readFails r c).partReset = s.partReset := by
  simp [State.readFails]
@[simp] theorem State.readFails_hostReset (s : State) (r : ReadRecord) (c : FaultCause) :
    (s.readFails r c).hostReset = s.hostReset := by
  simp [State.readFails]
@[simp] theorem State.readFails_apStrap (s : State) (r : ReadRecord) (c : FaultCause) :
    (s.readFails r c).apStrap = s.apStrap := by
  simp [State.readFails]
@[simp] theorem State.readFails_cbStrap (s : State) (r : ReadRecord) (c : FaultCause) :
    (s.readFails r c).cbStrap = s.cbStrap := by
  simp [State.readFails]
@[simp] theorem State.readFails_presence (s : State) (r : ReadRecord) (c : FaultCause) :
    (s.readFails r c).presence = s.presence := by
  simp [State.readFails]
@[simp] theorem State.readFails_powerGood (s : State) (r : ReadRecord) (c : FaultCause) :
    (s.readFails r c).powerGood = s.powerGood := by
  simp [State.readFails]
@[simp] theorem State.readFails_hostTable (s : State) (r : ReadRecord) (c : FaultCause) :
    (s.readFails r c).hostTable = s.hostTable := by
  simp [State.readFails]
@[simp] theorem State.readFails_windows (s : State) (r : ReadRecord) (c : FaultCause) :
    (s.readFails r c).windows = s.windows := by
  simp [State.readFails]
@[simp] theorem State.readFails_links (s : State) (r : ReadRecord) (c : FaultCause) :
    (s.readFails r c).links = s.links := by
  simp [State.readFails]
@[simp] theorem State.readFails_lines (s : State) (r : ReadRecord) (c : FaultCause) :
    (s.readFails r c).lines = s.lines := by
  simp [State.readFails]
@[simp] theorem State.readFails_engine (s : State) (r : ReadRecord) (c : FaultCause) :
    (s.readFails r c).engine = s.engine := by
  simp [State.readFails]
@[simp] theorem State.readFails_config (s : State) (r : ReadRecord) (c : FaultCause) :
    (s.readFails r c).config = s.config := by
  simp [State.readFails]
@[simp] theorem State.readFails_out (s : State) (r : ReadRecord) (c : FaultCause) :
    (s.readFails r c).out = s.out := by
  simp [State.readFails]
@[simp] theorem State.readFails_pending (s : State) (r : ReadRecord) (c : FaultCause) :
    (s.readFails r c).pending = s.pending := by
  simp [State.readFails]

/-! ### A read succeeds (R85) -/

@[simp] theorem State.readSucceeds_partReset (s : State) (r : ReadRecord) (p : Profile) :
    (s.readSucceeds r p).partReset = s.partReset := by
  simp [State.readSucceeds]
@[simp] theorem State.readSucceeds_hostReset (s : State) (r : ReadRecord) (p : Profile) :
    (s.readSucceeds r p).hostReset = s.hostReset := by
  simp [State.readSucceeds]
@[simp] theorem State.readSucceeds_apStrap (s : State) (r : ReadRecord) (p : Profile) :
    (s.readSucceeds r p).apStrap = s.apStrap := by
  simp [State.readSucceeds]
@[simp] theorem State.readSucceeds_cbStrap (s : State) (r : ReadRecord) (p : Profile) :
    (s.readSucceeds r p).cbStrap = s.cbStrap := by
  simp [State.readSucceeds]
@[simp] theorem State.readSucceeds_presence (s : State) (r : ReadRecord) (p : Profile) :
    (s.readSucceeds r p).presence = s.presence := by
  simp [State.readSucceeds]
@[simp] theorem State.readSucceeds_powerGood (s : State) (r : ReadRecord) (p : Profile) :
    (s.readSucceeds r p).powerGood = s.powerGood := by
  simp [State.readSucceeds]
@[simp] theorem State.readSucceeds_hostTable (s : State) (r : ReadRecord) (p : Profile) :
    (s.readSucceeds r p).hostTable = s.hostTable := by
  simp [State.readSucceeds]
@[simp] theorem State.readSucceeds_windows (s : State) (r : ReadRecord) (p : Profile) :
    (s.readSucceeds r p).windows = s.windows := by
  simp [State.readSucceeds]
@[simp] theorem State.readSucceeds_links (s : State) (r : ReadRecord) (p : Profile) :
    (s.readSucceeds r p).links = s.links := by
  simp [State.readSucceeds]
@[simp] theorem State.readSucceeds_lines (s : State) (r : ReadRecord) (p : Profile) :
    (s.readSucceeds r p).lines = s.lines := by
  simp [State.readSucceeds]
@[simp] theorem State.readSucceeds_engine (s : State) (r : ReadRecord) (p : Profile) :
    (s.readSucceeds r p).engine = s.engine := by
  simp [State.readSucceeds]
@[simp] theorem State.readSucceeds_config (s : State) (r : ReadRecord) (p : Profile) :
    (s.readSucceeds r p).config = s.config := by
  simp [State.readSucceeds]
@[simp] theorem State.readSucceeds_out (s : State) (r : ReadRecord) (p : Profile) :
    (s.readSucceeds r p).out = s.out := by
  simp [State.readSucceeds]
@[simp] theorem State.readSucceeds_pending (s : State) (r : ReadRecord) (p : Profile) :
    (s.readSucceeds r p).pending = s.pending := by
  simp [State.readSucceeds]

/-! ### An attempt fails (R82) -/

@[simp] theorem State.attemptFailure_partReset (s : State) (r : ReadRecord) :
    (s.attemptFailure r).partReset = s.partReset := by
  unfold State.attemptFailure; split <;> simp
@[simp] theorem State.attemptFailure_hostReset (s : State) (r : ReadRecord) :
    (s.attemptFailure r).hostReset = s.hostReset := by
  unfold State.attemptFailure; split <;> simp
@[simp] theorem State.attemptFailure_apStrap (s : State) (r : ReadRecord) :
    (s.attemptFailure r).apStrap = s.apStrap := by
  unfold State.attemptFailure; split <;> simp
@[simp] theorem State.attemptFailure_cbStrap (s : State) (r : ReadRecord) :
    (s.attemptFailure r).cbStrap = s.cbStrap := by
  unfold State.attemptFailure; split <;> simp
@[simp] theorem State.attemptFailure_presence (s : State) (r : ReadRecord) :
    (s.attemptFailure r).presence = s.presence := by
  unfold State.attemptFailure; split <;> simp
@[simp] theorem State.attemptFailure_powerGood (s : State) (r : ReadRecord) :
    (s.attemptFailure r).powerGood = s.powerGood := by
  unfold State.attemptFailure; split <;> simp
@[simp] theorem State.attemptFailure_hostTable (s : State) (r : ReadRecord) :
    (s.attemptFailure r).hostTable = s.hostTable := by
  unfold State.attemptFailure; split <;> simp
@[simp] theorem State.attemptFailure_windows (s : State) (r : ReadRecord) :
    (s.attemptFailure r).windows = s.windows := by
  unfold State.attemptFailure; split <;> simp
@[simp] theorem State.attemptFailure_links (s : State) (r : ReadRecord) :
    (s.attemptFailure r).links = s.links := by
  unfold State.attemptFailure; split <;> simp
@[simp] theorem State.attemptFailure_lines (s : State) (r : ReadRecord) :
    (s.attemptFailure r).lines = s.lines := by
  unfold State.attemptFailure; split <;> simp
@[simp] theorem State.attemptFailure_engine (s : State) (r : ReadRecord) :
    (s.attemptFailure r).engine = s.engine := by
  unfold State.attemptFailure; split <;> simp
@[simp] theorem State.attemptFailure_config (s : State) (r : ReadRecord) :
    (s.attemptFailure r).config = s.config := by
  unfold State.attemptFailure; split <;> simp
@[simp] theorem State.attemptFailure_out (s : State) (r : ReadRecord) : (s.attemptFailure r).out = s.out := by
  unfold State.attemptFailure; split <;> simp
@[simp] theorem State.attemptFailure_pending (s : State) (r : ReadRecord) :
    (s.attemptFailure r).pending = s.pending := by
  unfold State.attemptFailure; split <;> simp

/-! ### A completion changes the engine and the COMMAND causes (R129) -/

@[simp] theorem State.complete_partReset (s : State) (c : ResultCode) (r : Tbl 4 Word) :
    (s.complete c r).partReset = s.partReset := by
  simp [State.complete]
@[simp] theorem State.complete_hostReset (s : State) (c : ResultCode) (r : Tbl 4 Word) :
    (s.complete c r).hostReset = s.hostReset := by
  simp [State.complete]
@[simp] theorem State.complete_apStrap (s : State) (c : ResultCode) (r : Tbl 4 Word) :
    (s.complete c r).apStrap = s.apStrap := by
  simp [State.complete]
@[simp] theorem State.complete_cbStrap (s : State) (c : ResultCode) (r : Tbl 4 Word) :
    (s.complete c r).cbStrap = s.cbStrap := by
  simp [State.complete]
@[simp] theorem State.complete_presence (s : State) (c : ResultCode) (r : Tbl 4 Word) :
    (s.complete c r).presence = s.presence := by
  simp [State.complete]
@[simp] theorem State.complete_powerGood (s : State) (c : ResultCode) (r : Tbl 4 Word) :
    (s.complete c r).powerGood = s.powerGood := by
  simp [State.complete]
@[simp] theorem State.complete_hostTable (s : State) (c : ResultCode) (r : Tbl 4 Word) :
    (s.complete c r).hostTable = s.hostTable := by
  simp [State.complete]
@[simp] theorem State.complete_windows (s : State) (c : ResultCode) (r : Tbl 4 Word) :
    (s.complete c r).windows = s.windows := by
  simp [State.complete]
@[simp] theorem State.complete_slots (s : State) (c : ResultCode) (r : Tbl 4 Word) :
    (s.complete c r).slots = s.slots := by
  simp [State.complete]
@[simp] theorem State.complete_links (s : State) (c : ResultCode) (r : Tbl 4 Word) :
    (s.complete c r).links = s.links := by
  simp [State.complete]
@[simp] theorem State.complete_identQueue (s : State) (c : ResultCode) (r : Tbl 4 Word) :
    (s.complete c r).identQueue = s.identQueue := by
  simp [State.complete]
@[simp] theorem State.complete_ident (s : State) (c : ResultCode) (r : Tbl 4 Word) :
    (s.complete c r).ident = s.ident := by
  simp [State.complete]
@[simp] theorem State.complete_lines (s : State) (c : ResultCode) (r : Tbl 4 Word) :
    (s.complete c r).lines = s.lines := by
  simp [State.complete]
@[simp] theorem State.complete_config (s : State) (c : ResultCode) (r : Tbl 4 Word) :
    (s.complete c r).config = s.config := by
  simp [State.complete]
@[simp] theorem State.complete_tickets (s : State) (c : ResultCode) (r : Tbl 4 Word) :
    (s.complete c r).tickets = s.tickets := by
  simp [State.complete]
@[simp] theorem State.complete_out (s : State) (c : ResultCode) (r : Tbl 4 Word) :
    (s.complete c r).out = s.out := by
  simp [State.complete]
@[simp] theorem State.complete_pending (s : State) (c : ResultCode) (r : Tbl 4 Word) :
    (s.complete c r).pending = s.pending := by
  simp [State.complete]

/-! ### One request aborted, and a teardown (R108) -/

@[simp] theorem State.abort_partReset (n : SlotIx) (y : Teardown) (s : State) (o : Owed) :
    (State.abort n y s o).partReset = s.partReset := by
  unfold State.abort; split <;> [(split <;> simp); (split <;> simp)]
@[simp] theorem State.abortAll_partReset (n : SlotIx) (y : Teardown) (l : List Owed) (s : State) :
    (l.foldl (State.abort n y) s).partReset = s.partReset := by
  induction l generalizing s with
  | nil => rfl
  | cons o l ih => simp [ih]
@[simp] theorem State.teardown_partReset (s : State) (n : SlotIx) (y : Teardown) :
    (s.teardown n y).partReset = s.partReset := by simp [State.teardown]
@[simp] theorem State.faultSlot_partReset (s : State) (n : SlotIx) (c : FaultCause) :
    (s.faultSlot n c).partReset = s.partReset := by simp [State.faultSlot]
@[simp] theorem State.abortEjection_partReset (s : State) (n : SlotIx) :
    (s.abortEjection n).partReset = s.partReset := by simp [State.abortEjection]
@[simp] theorem State.abort_hostReset (n : SlotIx) (y : Teardown) (s : State) (o : Owed) :
    (State.abort n y s o).hostReset = s.hostReset := by
  unfold State.abort; split <;> [(split <;> simp); (split <;> simp)]
@[simp] theorem State.abortAll_hostReset (n : SlotIx) (y : Teardown) (l : List Owed) (s : State) :
    (l.foldl (State.abort n y) s).hostReset = s.hostReset := by
  induction l generalizing s with
  | nil => rfl
  | cons o l ih => simp [ih]
@[simp] theorem State.teardown_hostReset (s : State) (n : SlotIx) (y : Teardown) :
    (s.teardown n y).hostReset = s.hostReset := by simp [State.teardown]
@[simp] theorem State.faultSlot_hostReset (s : State) (n : SlotIx) (c : FaultCause) :
    (s.faultSlot n c).hostReset = s.hostReset := by simp [State.faultSlot]
@[simp] theorem State.abortEjection_hostReset (s : State) (n : SlotIx) :
    (s.abortEjection n).hostReset = s.hostReset := by simp [State.abortEjection]
@[simp] theorem State.abort_apStrap (n : SlotIx) (y : Teardown) (s : State) (o : Owed) :
    (State.abort n y s o).apStrap = s.apStrap := by
  unfold State.abort; split <;> [(split <;> simp); (split <;> simp)]
@[simp] theorem State.abortAll_apStrap (n : SlotIx) (y : Teardown) (l : List Owed) (s : State) :
    (l.foldl (State.abort n y) s).apStrap = s.apStrap := by
  induction l generalizing s with
  | nil => rfl
  | cons o l ih => simp [ih]
@[simp] theorem State.teardown_apStrap (s : State) (n : SlotIx) (y : Teardown) :
    (s.teardown n y).apStrap = s.apStrap := by simp [State.teardown]
@[simp] theorem State.faultSlot_apStrap (s : State) (n : SlotIx) (c : FaultCause) :
    (s.faultSlot n c).apStrap = s.apStrap := by simp [State.faultSlot]
@[simp] theorem State.abortEjection_apStrap (s : State) (n : SlotIx) :
    (s.abortEjection n).apStrap = s.apStrap := by simp [State.abortEjection]
@[simp] theorem State.abort_cbStrap (n : SlotIx) (y : Teardown) (s : State) (o : Owed) :
    (State.abort n y s o).cbStrap = s.cbStrap := by
  unfold State.abort; split <;> [(split <;> simp); (split <;> simp)]
@[simp] theorem State.abortAll_cbStrap (n : SlotIx) (y : Teardown) (l : List Owed) (s : State) :
    (l.foldl (State.abort n y) s).cbStrap = s.cbStrap := by
  induction l generalizing s with
  | nil => rfl
  | cons o l ih => simp [ih]
@[simp] theorem State.teardown_cbStrap (s : State) (n : SlotIx) (y : Teardown) :
    (s.teardown n y).cbStrap = s.cbStrap := by simp [State.teardown]
@[simp] theorem State.faultSlot_cbStrap (s : State) (n : SlotIx) (c : FaultCause) :
    (s.faultSlot n c).cbStrap = s.cbStrap := by simp [State.faultSlot]
@[simp] theorem State.abortEjection_cbStrap (s : State) (n : SlotIx) :
    (s.abortEjection n).cbStrap = s.cbStrap := by simp [State.abortEjection]
@[simp] theorem State.abort_presence (n : SlotIx) (y : Teardown) (s : State) (o : Owed) :
    (State.abort n y s o).presence = s.presence := by
  unfold State.abort; split <;> [(split <;> simp); (split <;> simp)]
@[simp] theorem State.abortAll_presence (n : SlotIx) (y : Teardown) (l : List Owed) (s : State) :
    (l.foldl (State.abort n y) s).presence = s.presence := by
  induction l generalizing s with
  | nil => rfl
  | cons o l ih => simp [ih]
@[simp] theorem State.teardown_presence (s : State) (n : SlotIx) (y : Teardown) :
    (s.teardown n y).presence = s.presence := by simp [State.teardown]
@[simp] theorem State.faultSlot_presence (s : State) (n : SlotIx) (c : FaultCause) :
    (s.faultSlot n c).presence = s.presence := by simp [State.faultSlot]
@[simp] theorem State.abortEjection_presence (s : State) (n : SlotIx) :
    (s.abortEjection n).presence = s.presence := by simp [State.abortEjection]
@[simp] theorem State.abort_powerGood (n : SlotIx) (y : Teardown) (s : State) (o : Owed) :
    (State.abort n y s o).powerGood = s.powerGood := by
  unfold State.abort; split <;> [(split <;> simp); (split <;> simp)]
@[simp] theorem State.abortAll_powerGood (n : SlotIx) (y : Teardown) (l : List Owed) (s : State) :
    (l.foldl (State.abort n y) s).powerGood = s.powerGood := by
  induction l generalizing s with
  | nil => rfl
  | cons o l ih => simp [ih]
@[simp] theorem State.teardown_powerGood (s : State) (n : SlotIx) (y : Teardown) :
    (s.teardown n y).powerGood = s.powerGood := by simp [State.teardown]
@[simp] theorem State.faultSlot_powerGood (s : State) (n : SlotIx) (c : FaultCause) :
    (s.faultSlot n c).powerGood = s.powerGood := by simp [State.faultSlot]
@[simp] theorem State.abortEjection_powerGood (s : State) (n : SlotIx) :
    (s.abortEjection n).powerGood = s.powerGood := by simp [State.abortEjection]
@[simp] theorem State.abort_links (n : SlotIx) (y : Teardown) (s : State) (o : Owed) :
    (State.abort n y s o).links = s.links := by
  unfold State.abort; split <;> [(split <;> simp); (split <;> simp)]
@[simp] theorem State.abortAll_links (n : SlotIx) (y : Teardown) (l : List Owed) (s : State) :
    (l.foldl (State.abort n y) s).links = s.links := by
  induction l generalizing s with
  | nil => rfl
  | cons o l ih => simp [ih]
@[simp] theorem State.abort_identQueue (n : SlotIx) (y : Teardown) (s : State) (o : Owed) :
    (State.abort n y s o).identQueue = s.identQueue := by
  unfold State.abort; split <;> [(split <;> simp); (split <;> simp)]
@[simp] theorem State.abortAll_identQueue (n : SlotIx) (y : Teardown) (l : List Owed) (s : State) :
    (l.foldl (State.abort n y) s).identQueue = s.identQueue := by
  induction l generalizing s with
  | nil => rfl
  | cons o l ih => simp [ih]
@[simp] theorem State.teardown_identQueue (s : State) (n : SlotIx) (y : Teardown) :
    (s.teardown n y).identQueue = s.identQueue := by simp [State.teardown]
@[simp] theorem State.faultSlot_identQueue (s : State) (n : SlotIx) (c : FaultCause) :
    (s.faultSlot n c).identQueue = s.identQueue := by simp [State.faultSlot]
@[simp] theorem State.abortEjection_identQueue (s : State) (n : SlotIx) :
    (s.abortEjection n).identQueue = s.identQueue := by simp [State.abortEjection]
@[simp] theorem State.abort_ident (n : SlotIx) (y : Teardown) (s : State) (o : Owed) :
    (State.abort n y s o).ident = s.ident := by
  unfold State.abort; split <;> [(split <;> simp); (split <;> simp)]
@[simp] theorem State.abortAll_ident (n : SlotIx) (y : Teardown) (l : List Owed) (s : State) :
    (l.foldl (State.abort n y) s).ident = s.ident := by
  induction l generalizing s with
  | nil => rfl
  | cons o l ih => simp [ih]
@[simp] theorem State.teardown_ident (s : State) (n : SlotIx) (y : Teardown) :
    (s.teardown n y).ident = s.ident := by simp [State.teardown]
@[simp] theorem State.faultSlot_ident (s : State) (n : SlotIx) (c : FaultCause) :
    (s.faultSlot n c).ident = s.ident := by simp [State.faultSlot]
@[simp] theorem State.abortEjection_ident (s : State) (n : SlotIx) :
    (s.abortEjection n).ident = s.ident := by simp [State.abortEjection]
@[simp] theorem State.abort_lines (n : SlotIx) (y : Teardown) (s : State) (o : Owed) :
    (State.abort n y s o).lines = s.lines := by
  unfold State.abort; split <;> [(split <;> simp); (split <;> simp)]
@[simp] theorem State.abortAll_lines (n : SlotIx) (y : Teardown) (l : List Owed) (s : State) :
    (l.foldl (State.abort n y) s).lines = s.lines := by
  induction l generalizing s with
  | nil => rfl
  | cons o l ih => simp [ih]
@[simp] theorem State.teardown_lines (s : State) (n : SlotIx) (y : Teardown) :
    (s.teardown n y).lines = s.lines := by simp [State.teardown]
@[simp] theorem State.faultSlot_lines (s : State) (n : SlotIx) (c : FaultCause) :
    (s.faultSlot n c).lines = s.lines := by simp [State.faultSlot]
@[simp] theorem State.abortEjection_lines (s : State) (n : SlotIx) :
    (s.abortEjection n).lines = s.lines := by simp [State.abortEjection]
@[simp] theorem State.abort_engine (n : SlotIx) (y : Teardown) (s : State) (o : Owed) :
    (State.abort n y s o).engine = s.engine := by
  unfold State.abort; split <;> [(split <;> simp); (split <;> simp)]
@[simp] theorem State.abortAll_engine (n : SlotIx) (y : Teardown) (l : List Owed) (s : State) :
    (l.foldl (State.abort n y) s).engine = s.engine := by
  induction l generalizing s with
  | nil => rfl
  | cons o l ih => simp [ih]
@[simp] theorem State.teardown_engine (s : State) (n : SlotIx) (y : Teardown) :
    (s.teardown n y).engine = s.engine := by simp [State.teardown]
@[simp] theorem State.faultSlot_engine (s : State) (n : SlotIx) (c : FaultCause) :
    (s.faultSlot n c).engine = s.engine := by simp [State.faultSlot]
@[simp] theorem State.abortEjection_engine (s : State) (n : SlotIx) :
    (s.abortEjection n).engine = s.engine := by simp [State.abortEjection]
@[simp] theorem State.abort_config (n : SlotIx) (y : Teardown) (s : State) (o : Owed) :
    (State.abort n y s o).config = s.config := by
  unfold State.abort; split <;> [(split <;> simp); (split <;> simp)]
@[simp] theorem State.abortAll_config (n : SlotIx) (y : Teardown) (l : List Owed) (s : State) :
    (l.foldl (State.abort n y) s).config = s.config := by
  induction l generalizing s with
  | nil => rfl
  | cons o l ih => simp [ih]
@[simp] theorem State.teardown_config (s : State) (n : SlotIx) (y : Teardown) :
    (s.teardown n y).config = s.config := by simp [State.teardown]
@[simp] theorem State.faultSlot_config (s : State) (n : SlotIx) (c : FaultCause) :
    (s.faultSlot n c).config = s.config := by simp [State.faultSlot]
@[simp] theorem State.abortEjection_config (s : State) (n : SlotIx) :
    (s.abortEjection n).config = s.config := by simp [State.abortEjection]
@[simp] theorem State.abort_pending (n : SlotIx) (y : Teardown) (s : State) (o : Owed) :
    (State.abort n y s o).pending = s.pending := by
  unfold State.abort; split <;> [(split <;> simp); (split <;> simp)]
@[simp] theorem State.abortAll_pending (n : SlotIx) (y : Teardown) (l : List Owed) (s : State) :
    (l.foldl (State.abort n y) s).pending = s.pending := by
  induction l generalizing s with
  | nil => rfl
  | cons o l ih => simp [ih]
@[simp] theorem State.teardown_pending (s : State) (n : SlotIx) (y : Teardown) :
    (s.teardown n y).pending = s.pending := by simp [State.teardown]
@[simp] theorem State.faultSlot_pending (s : State) (n : SlotIx) (c : FaultCause) :
    (s.faultSlot n c).pending = s.pending := by simp [State.faultSlot]
@[simp] theorem State.abortEjection_pending (s : State) (n : SlotIx) :
    (s.abortEjection n).pending = s.pending := by simp [State.abortEjection]
@[simp] theorem State.teardown_links (s : State) (n : SlotIx) (y : Teardown) :
    (s.teardown n y).links = s.links.put n Link.reset := by simp [State.teardown]
@[simp] theorem State.faultSlot_links (s : State) (n : SlotIx) (c : FaultCause) :
    (s.faultSlot n c).links = s.links.put n Link.reset := by simp [State.faultSlot]

/-! ### References released one after another -/

@[simp] theorem State.releaseAll_partReset (l : List WinIx) (s : State) :
    (l.foldl State.releaseRef s).partReset = s.partReset := by
  induction l generalizing s with
  | nil => rfl
  | cons w l ih => simp [ih]
@[simp] theorem State.releaseAll_hostReset (l : List WinIx) (s : State) :
    (l.foldl State.releaseRef s).hostReset = s.hostReset := by
  induction l generalizing s with
  | nil => rfl
  | cons w l ih => simp [ih]
@[simp] theorem State.releaseAll_apStrap (l : List WinIx) (s : State) :
    (l.foldl State.releaseRef s).apStrap = s.apStrap := by
  induction l generalizing s with
  | nil => rfl
  | cons w l ih => simp [ih]
@[simp] theorem State.releaseAll_cbStrap (l : List WinIx) (s : State) :
    (l.foldl State.releaseRef s).cbStrap = s.cbStrap := by
  induction l generalizing s with
  | nil => rfl
  | cons w l ih => simp [ih]
@[simp] theorem State.releaseAll_presence (l : List WinIx) (s : State) :
    (l.foldl State.releaseRef s).presence = s.presence := by
  induction l generalizing s with
  | nil => rfl
  | cons w l ih => simp [ih]
@[simp] theorem State.releaseAll_powerGood (l : List WinIx) (s : State) :
    (l.foldl State.releaseRef s).powerGood = s.powerGood := by
  induction l generalizing s with
  | nil => rfl
  | cons w l ih => simp [ih]
@[simp] theorem State.releaseAll_hostTable (l : List WinIx) (s : State) :
    (l.foldl State.releaseRef s).hostTable = s.hostTable := by
  induction l generalizing s with
  | nil => rfl
  | cons w l ih => simp [ih]
@[simp] theorem State.releaseAll_slots (l : List WinIx) (s : State) :
    (l.foldl State.releaseRef s).slots = s.slots := by
  induction l generalizing s with
  | nil => rfl
  | cons w l ih => simp [ih]
@[simp] theorem State.releaseAll_links (l : List WinIx) (s : State) :
    (l.foldl State.releaseRef s).links = s.links := by
  induction l generalizing s with
  | nil => rfl
  | cons w l ih => simp [ih]
@[simp] theorem State.releaseAll_identQueue (l : List WinIx) (s : State) :
    (l.foldl State.releaseRef s).identQueue = s.identQueue := by
  induction l generalizing s with
  | nil => rfl
  | cons w l ih => simp [ih]
@[simp] theorem State.releaseAll_ident (l : List WinIx) (s : State) :
    (l.foldl State.releaseRef s).ident = s.ident := by
  induction l generalizing s with
  | nil => rfl
  | cons w l ih => simp [ih]
@[simp] theorem State.releaseAll_lines (l : List WinIx) (s : State) :
    (l.foldl State.releaseRef s).lines = s.lines := by
  induction l generalizing s with
  | nil => rfl
  | cons w l ih => simp [ih]
@[simp] theorem State.releaseAll_engine (l : List WinIx) (s : State) :
    (l.foldl State.releaseRef s).engine = s.engine := by
  induction l generalizing s with
  | nil => rfl
  | cons w l ih => simp [ih]
@[simp] theorem State.releaseAll_config (l : List WinIx) (s : State) :
    (l.foldl State.releaseRef s).config = s.config := by
  induction l generalizing s with
  | nil => rfl
  | cons w l ih => simp [ih]
@[simp] theorem State.releaseAll_out (l : List WinIx) (s : State) :
    (l.foldl State.releaseRef s).out = s.out := by
  induction l generalizing s with
  | nil => rfl
  | cons w l ih => simp [ih]
@[simp] theorem State.releaseAll_pending (l : List WinIx) (s : State) :
    (l.foldl State.releaseRef s).pending = s.pending := by
  induction l generalizing s with
  | nil => rfl
  | cons w l ih => simp [ih]

end Sys2Proof.Machine
end

