-- ==== Sys2Proof/Laws/Ops.lean ====
section
/-! SUPPORT. One lemma per shared operation, saying once what it can do: cite these in place of unfolding the
operation. Which fields an operation leaves alone stands in Laws/Frames.lean. -/

namespace Sys2Proof.Machine

/-! ### Steps -/

/-- Every command of the part answers a next state: nothing faults and nothing is refused. -/
theorem exec_answers_next (c : Instr) (s : State) : ∃ t, exec c s = .next t := by
  cases c <;> exact ⟨_, rfl⟩

/-- Every step answers a next state. -/
theorem step_answers_next (s : State) : ∃ t, step s = .next t := by
  unfold step
  split
  · exact ⟨_, rfl⟩
  · exact exec_answers_next _ _

/-- A command taken out of part reset leaves its effect on the state with the outputs cleared. -/
theorem taken_of_running {s : State} (f : State → State) (h : s.partReset = false) :
    taken f s = .next (f s.quiet) := by
  simp [taken, h]

/-- While part reset is in force a command clears the outputs and does nothing else (R158). -/
theorem taken_of_reset {s : State} (f : State → State) (h : s.partReset = true) : taken f s = .next s.quiet := by
  simp [taken, h]

/-! ### The lowest index that meets a test -/

/-- A search of the indexes from 0 up finds the lowest that passes. -/
theorem find_finRange_eq_some {n : Nat} (p : Fin n → Bool) (i : Fin n) :
    (List.finRange n).find? p = some i ↔ p i = true ∧ ∀ j, j < i → p j = false := by
  rw [List.find?_eq_some_iff_getElem]
  constructor
  · rintro ⟨hp, k, hk, he, hlt⟩
    refine ⟨hp, fun j hj => ?_⟩
    have e : i.val = k := by simpa using (congrArg Fin.val he).symm
    have := hlt j.val (by have := Fin.lt_def.1 hj; omega)
    simpa using this
  · rintro ⟨hp, hlt⟩
    refine ⟨hp, i.val, by simp, by simp, fun j hj => ?_⟩
    have := hlt ⟨j, by omega⟩ (Fin.lt_def.2 hj)
    simpa using this

/-- A search of the indexes finds nothing when every index fails. -/
theorem find_finRange_eq_none {n : Nat} (p : Fin n → Bool) :
    (List.finRange n).find? p = none ↔ ∀ j, p j = false := by
  simp

/-- The lookup finds the one window that covers the page (R3). -/
theorem State.lookup_of_covers {s : State} {page : Nat} {w : WinIx} (h : (s.windows.get w).covers page = true)
    (once : ∀ u, (s.windows.get u).covers page = true → u = w) : s.lookup page = some w := by
  rw [lookup, find_finRange_eq_some]
  refine ⟨h, fun j hj => ?_⟩
  cases hc : (s.windows.get j).covers page
  · rfl
  · exact absurd (once j hc) (Fin.ne_of_lt hj)

/-- The lookup finds nothing where no window covers the page (R3). -/
theorem State.lookup_eq_none {s : State} {page : Nat} :
    s.lookup page = none ↔ ∀ w, (s.windows.get w).covers page = false := by
  rw [lookup, find_finRange_eq_none]

/-- The window that grants a request of a slot (R9). -/
theorem State.granting_eq_some {s : State} {n : SlotIx} {q : Fin 6} {w : WinIx} :
    s.granting n q = some w ↔
      (s.windows.get w).grants n q = true ∧ ∀ j, j < w → (s.windows.get j).grants n q = false := by
  rw [granting, find_finRange_eq_some]

/-- The lowest FREE window (R11). -/
theorem State.freeWindow_eq_some {s : State} {w : WinIx} :
    s.freeWindow = some w ↔ s.windows.get w = .free ∧ ∀ j, j < w → s.windows.get j ≠ .free := by
  rw [freeWindow, find_finRange_eq_some]
  simp

/-- A run of pages overlaps exactly when some window that is not FREE covers one of its pages (R10); a window holds at
least one page. -/
theorem State.overlaps_iff {s : State} {base pages : Nat} (hp : 0 < pages)
    (hm : ∀ w m, (s.windows.get w).mapping = some m → 0 < m.pages) :
    s.overlaps base pages = true ↔
      ∃ w page, base ≤ page ∧ page < base + pages ∧ (s.windows.get w).covers page = true := by
  simp only [overlaps, List.any_eq_true, List.mem_finRange, true_and]
  refine exists_congr fun w => ?_
  unfold Window.meets Window.covers
  cases e : (s.windows.get w).mapping with
  | none => simp
  | some m =>
    have := hm w m e
    simp only [decide_eq_true_eq]
    constructor
    · rintro ⟨h1, h2⟩
      exact ⟨max base m.base, by omega, by omega, by omega, by omega⟩
    · rintro ⟨page, h1, h2, h3, h4⟩
      omega

/-- The OPEN ticket whose target `p` accepts, of which there is one at most (R142). -/
theorem State.openTicket_of_openFor {s : State} {p : TicketOp → Bool} {k : Fin 8}
    (h : (s.tickets.get k).openFor p = true) (once : ∀ j, (s.tickets.get j).openFor p = true → j = k) :
    s.openTicket p = some k := by
  rw [openTicket, find_finRange_eq_some]
  refine ⟨h, fun j hj => ?_⟩
  cases hc : (s.tickets.get j).openFor p
  · rfl
  · exact absurd (once j hc) (Fin.ne_of_lt hj)

/-- No OPEN ticket has the target. -/
theorem State.openTicket_eq_none {s : State} {p : TicketOp → Bool} :
    s.openTicket p = none ↔ ∀ k, (s.tickets.get k).openFor p = false := by
  rw [openTicket, find_finRange_eq_none]

/-- The lowest FREE ticket record (R141). -/
theorem State.freeTicket_eq_some {s : State} {k : Fin 8} :
    s.freeTicket = some k ↔ (s.tickets.get k).body = .free ∧ ∀ j, j < k → (s.tickets.get j).body ≠ .free := by
  rw [freeTicket, find_finRange_eq_some]
  simp

/-- No FREE ticket record. -/
theorem State.freeTicket_eq_none {s : State} : s.freeTicket = none ↔ ∀ k, (s.tickets.get k).body ≠ .free := by
  rw [freeTicket, find_finRange_eq_none]
  simp

/-- The lowest FREE link tag (R98). -/
theorem Link.freeTag_eq_some {l : Link} {k : TagIx} :
    l.freeTag = some k ↔ l.tags.get k = .free ∧ ∀ j, j < k → l.tags.get j ≠ .free := by
  rw [freeTag, find_finRange_eq_some]
  simp

/-- The source an ACK selects (R115). -/
theorem State.selected_eq_some {s : State} {l : LineIx} {i : Fin 18} :
    s.selected l = some i ↔ (s.eligible l i = true ∧ s.topPriority l i = true) ∧
      ∀ j, j < i → (s.eligible l j && s.topPriority l j) = false := by
  rw [selected, find_finRange_eq_some, Bool.and_eq_true]

/-! ### Commands -/

/-- The completion of the command in execution (R129). -/
theorem runCommand_of_executing {s : State} {c : Command} (body : Tbl 4 Word → State → Completion)
    (h1 : s.engine.state = .executing) (h2 : s.engine.takenCode = c.code) :
    runCommand c body s = (body s.engine.takenOperands s).result s := by
  simp [runCommand, State.isExecuting, h1, h2]

/-- The completion of a command that is not in execution does nothing (log 3). -/
theorem runCommand_of_not_executing {s : State} {c : Command} (body : Tbl 4 Word → State → Completion)
    (h : ¬(s.engine.state = .executing ∧ s.engine.takenCode = c.code)) : runCommand c body s = s := by
  have : s.isExecuting c = false := by
    simp only [State.isExecuting, Bool.and_eq_false_iff, beq_eq_false_iff_ne]
    by_cases e : s.engine.state = .executing
    · exact .inr fun k => h ⟨e, k⟩
    · exact .inl e
  simp [runCommand, this]

/-- A refused command completes with its code, no results and no other effect (R133). -/
theorem Completion.result_refuse (s : State) (code : ResultCode) :
    (Completion.refuse code).result s = s.complete code noWords := rfl

/-- A command that is taken completes on the state its effect leaves (R129). -/
theorem Completion.result_finish (s t : State) (code : ResultCode) (results : Tbl 4 Word) :
    (Completion.finish code results t).result s = t.complete code results := rfl

/-- A deferred command takes the lowest FREE ticket record, or refuses with NO_TICKET (R134, R141). -/
theorem deferred_eq (s : State) (op : TicketOp) (start : Nat → State → State) :
    (∀ k, s.freeTicket = some k →
      deferred s op start =
        .finish .accepted (indexWords (((s.tickets.get k).allocate op).id k) 8)
          (start (((s.tickets.get k).allocate op).id k) (s.putTicket k ((s.tickets.get k).allocate op)))) ∧
    (s.freeTicket = none → deferred s op start = .refuse .noTicket) := by
  constructor
  · intro k h
    simp [deferred, h]
  · intro h
    simp [deferred, h]

/-! ### Tickets and windows -/

/-- A completion reaches an OPEN ticket alone, and raises TICKET_DONE with it (R143). -/
theorem State.finishTicket_eq (s : State) (k : Fin 8) (outcome : TicketOutcome) (detail : Option TicketDetail) :
    (∀ op, (s.tickets.get k).body = .opened op →
      s.finishTicket k outcome detail =
        (s.putTicket k { s.tickets.get k with body := .finished op outcome detail }).raise .ticketDone) ∧
    ((∀ op, (s.tickets.get k).body ≠ .opened op) → s.finishTicket k outcome detail = s) := by
  constructor
  · intro op h
    simp [finishTicket, h]
  · intro h
    unfold finishTicket
    split
    · rename_i op e
      exact absurd e (h op)
    · rfl

/-- A reference of an OPEN window is released (R18). -/
theorem State.releaseRef_of_opened {s : State} {w : WinIx} {m : Mapping} {refs : Nat}
    (h : s.windows.get w = .opened m refs) : s.releaseRef w = s.putWindow w (.opened m (refs - 1)) := by
  simp [releaseRef, h]

/-- A reference of a CLOSING window that holds more of them is released (R18). -/
theorem State.releaseRef_of_closing {s : State} {w : WinIx} {m : Mapping} {refs : Nat} {d : Disposition}
    {ticket : Option Nat} (h : s.windows.get w = .closing m refs d ticket) (h2 : 2 ≤ refs) :
    s.releaseRef w = s.putWindow w (.closing m (refs - 1) d ticket) := by
  have : ¬refs - 1 = 0 := by omega
  simp [releaseRef, h, this]

/-- The last reference of a CLOSING window drains it (R19, R20). -/
theorem State.releaseRef_of_last {s : State} {w : WinIx} {m : Mapping} {refs : Nat} {d : Disposition}
    {ticket : Option Nat} (h : s.windows.get w = .closing m refs d ticket) (h1 : refs ≤ 1) :
    s.releaseRef w = s.drain w m d ticket := by
  have : refs - 1 = 0 := by omega
  simp [releaseRef, h, this]

/-- A drain completes the window's close ticket only when the field is present and names a current id (R20). -/
theorem State.drain_eq (s : State) (w : WinIx) (m : Mapping) (d : Disposition) :
    s.drain w m d none = s.putWindow w (d.drained m) ∧
    ∀ id, s.drain w m d (some id) =
      if (s.tickets.get (ticketIndex id)).id (ticketIndex id) = id then
        (s.putWindow w (d.drained m)).finishTicket (ticketIndex id) .success (some d.detail)
      else s.putWindow w (d.drained m) := by
  refine ⟨rfl, fun id => ?_⟩
  simp only [drain, finishTicketById]
  rfl

/-! ### Posted failures and teardowns -/

/-- The posted-failure record of a slot after one failure (R67). -/
theorem State.recordPosted_eq (s : State) (n : SlotIx) (w : WinIx) (addr : Word) (cause : PostedCause) :
    ((s.slots.get n).posted = none →
      s.recordPosted n w addr cause =
        (s.putSlot n { s.slots.get n with posted := some { window := w, addr, cause, more := false } }).raise
          (.postedFailed n)) ∧
    (∀ f, (s.slots.get n).posted = some f → f.more = false →
      s.recordPosted n w addr cause =
        (s.putSlot n { s.slots.get n with posted := some { f with more := true } }).raise (.postedFailed n)) ∧
    ∀ f, (s.slots.get n).posted = some f → f.more = true → s.recordPosted n w addr cause = s := by
  refine ⟨fun h => ?_, fun f h hm => ?_, fun f h hm => ?_⟩ <;> simp_all [recordPosted]

/-- One request aborted (R41, R103, R108). -/
theorem State.abort_eq (n : SlotIx) (why : Teardown) (s : State) (o : Owed) :
    (∀ t, o.hostTag = some t → o.orphaned = false →
      s.abort n why o = (s.releaseRef o.window).answer t why.code none) ∧
    (∀ t, o.hostTag = some t → o.orphaned = true → s.abort n why o = s.releaseRef o.window) ∧
    (o.hostTag = none → why = .fault →
      s.abort n why o = (s.releaseRef o.window).recordPosted n o.window o.addr .aborted) ∧
    (o.hostTag = none → why = .removal → s.abort n why o = s.releaseRef o.window) := by
  refine ⟨fun t h1 h2 => ?_, fun t h1 h2 => ?_, fun h1 h2 => ?_, fun h1 h2 => ?_⟩ <;> simp [State.abort, h1, h2]

/-- The quiesce test acts exactly when the quiesce condition holds (R68). -/
theorem State.testQuiesce_eq (s : State) (n : SlotIx) :
    (s.quiesceHolds n = true →
      s.testQuiesce n =
        ((s.putLink n
          { s.links.get n with
            state := .quiescing
            tags := (s.links.get n).tags.each fun _ => LinkTag.dropStale }).putSlot n
          { s.slots.get n with quiesceTimer := some Config.quiesceMicros }).send n .quiesce) ∧
    (s.quiesceHolds n = false → s.testQuiesce n = s) := by
  constructor <;> intro h <;> simp [testQuiesce, h]

/-! ### Identification -/

/-- An IDLE controller takes the head of the queue, and does nothing else (R76). -/
theorem State.serveIdent_eq (s : State) :
    (∀ n rest, s.ident = .idle → s.identQueue = n :: rest →
      s.serveIdent =
        ((s.putIdentQueue rest).putSlot n { s.slots.get n with state := .identifying }).putIdent
          (.reading (ReadRecord.start n 1 s.config.clock))) ∧
    (s.ident ≠ .idle ∨ s.identQueue = [] → s.serveIdent = s) := by
  constructor
  · intro n rest h1 h2
    simp [serveIdent, h1, h2]
  · intro h
    unfold serveIdent
    split
    · rename_i e1 e2
      rcases h with h | h
      · exact absurd e1 h
      · rw [e2] at h
        cases h
    · rfl

/-- A byte of the part's acknowledged: the next of the opening, while there is one (R80, R81). -/
theorem ReadRecord.transfer_acknowledged (r : ReadRecord) (size : Nat) :
    (r.opening = [] → r.transfer size .acknowledged = (r, [])) ∧
    ∀ items rest, r.opening = items :: rest →
      r.transfer size .acknowledged = ({ r with sent := r.sent + 1 }, items) := by
  constructor
  · intro h
    simp [transfer, h]
  · intro items rest h
    simp [transfer, h]

/-- An image byte received: bytes received rises by 1 until the image is whole (R80, R81). -/
theorem ReadRecord.transfer_received (r : ReadRecord) (size : Nat) (b : Byte) :
    (r.bytes.length < size →
      r.transfer size (.received b) =
        ({ r with sent := 3, bytes := r.bytes ++ [b] },
          r.opening.flatten ++ [.received b (decide (r.bytes.length + 1 < size))])) ∧
    (¬r.bytes.length < size → r.transfer size (.received b) = (r, [])) := by
  constructor <;> intro h <;> simp [transfer, h]

/-- A run of bytes moves only the bytes received and the part's bytes sent. -/
theorem ReadRecord.transfers_frame (r : ReadRecord) (size : Nat) (run : List Transfer) :
    (r.transfers size run).1.slot = r.slot ∧ (r.transfers size run).1.attempt = r.attempt ∧
      (r.transfers size run).1.clock = r.clock ∧ (r.transfers size run).1.phase = r.phase ∧
      (r.transfers size run).1.imageLength = r.imageLength := by
  induction run generalizing r with
  | nil => simp [transfers]
  | cons x run ih =>
    have step : (r.transfer size x).1.slot = r.slot ∧ (r.transfer size x).1.attempt = r.attempt ∧
        (r.transfer size x).1.clock = r.clock ∧ (r.transfer size x).1.phase = r.phase ∧
        (r.transfer size x).1.imageLength = r.imageLength := by
      cases x <;> simp only [transfer] <;> split <;> simp
    simpa [transfers, step] using ih (r.transfer size x).1

/-- A run that has begun with some bytes goes on with the rest. -/
theorem ReadRecord.transfers_append (r : ReadRecord) (size : Nat) (run more : List Transfer) :
    r.transfers size (run ++ more) =
      (((r.transfers size run).1.transfers size more).1,
        (r.transfers size run).2 ++ ((r.transfers size run).1.transfers size more).2) := by
  induction run generalizing r with
  | nil => simp [transfers]
  | cons x run ih => simp [transfers, ih]

/-- Bytes of the header: the read in progress goes on while they are fewer than 4; with byte 3 the header is checked, and
leads to the body or ends the read (R80, R83, R84). -/
theorem State.headerRead_eq {s : State} {r : ReadRecord} (run : List Transfer) (hi : s.ident = .reading r)
    (hp : r.phase = .header) :
    let r' := (r.transfers 4 run).1
    let items := (r.transfers 4 run).2
    (r'.bytes.length < 4 → s.headerRead run = (s.onIdentLink items).putIdent (.reading r')) ∧
    ∀ b0 b1 b2 b3, r'.bytes = [b0, b1, b2, b3] →
      (headerPasses b0 b1 b2 b3 = true →
        s.headerRead run =
          (s.onIdentLink (items ++ [.stop])).putIdent (.reading
            { r' with phase := .body, sent := 0, imageLength := some (leNat [b2, b3]) })) ∧
      (headerPasses b0 b1 b2 b3 = false →
        s.headerRead run = (s.onIdentLink (items ++ [.stop])).readFails r' .identBadImage) := by
  refine ⟨fun hl => ?_, fun b0 b1 b2 b3 hb => ⟨fun hc => ?_, fun hc => ?_⟩⟩
  · simp only [headerRead, hi, hp, if_true]
    split
    · rename_i e
      rw [e] at hl
      simp at hl
    · rfl
  · simp [headerRead, hi, hp, hb, hc]
  · simp [headerRead, hi, hp, hb, hc]

/-- Bytes of the body: the read in progress goes on while the image is not whole; with its last byte the image is checked,
and the read ends (R81, R83, R84, R85). -/
theorem State.bodyRead_eq {s : State} {r : ReadRecord} {length : Nat} (run : List Transfer)
    (hi : s.ident = .reading r) (hp : r.phase = .body) (hl : r.imageLength = some length) :
    let r' := (r.transfers length run).1
    let items := (r.transfers length run).2
    s.bodyRead run =
      if r'.bytes.length < length then (s.onIdentLink items).putIdent (.reading r')
      else if imagePasses r'.bytes then (s.onIdentLink (items ++ [.stop])).readSucceeds r' (imageProfile r'.bytes)
      else (s.onIdentLink (items ++ [.stop])).readFails r' .identBadImage := by
  simp [bodyRead, hi, hp, hl]

/-- A failed attempt: the nine pulses of the bus clear, or the byte that was not acknowledged, then a stop condition (R79,
R82); no effect once the memory sends. -/
theorem State.missingAcknowledge_eq {s : State} {r : ReadRecord} (hi : s.ident = .reading r) :
    (r.phase = .busClear →
      s.missingAcknowledge =
        (s.onIdentLink (List.replicate 9 .clockPulse ++ [.stop])).attemptFailure r) ∧
    (r.phase ≠ .busClear →
      (r.opening = [] → s.missingAcknowledge = s) ∧
      ∀ items rest, r.opening = items :: rest →
        s.missingAcknowledge = (s.onIdentLink (items ++ [.stop])).attemptFailure r) := by
  constructor
  · intro h
    simp [missingAcknowledge, hi, h, ReadRecord.beforeByte]
  · intro h
    cases hp : r.phase
    · exact absurd hp h
    all_goals exact ⟨fun e => by simp [missingAcknowledge, hi, hp, e], fun items rest e => by
      simp [missingAcknowledge, hi, hp, e]⟩

/-- A failed attempt is retried, or ends the read (R82). -/
theorem State.attemptFailure_eq (s : State) (r : ReadRecord) :
    (r.attempt < 3 → s.attemptFailure r = s.putIdent (.retryWait r Config.retryMicros)) ∧
    (¬r.attempt < 3 → s.attemptFailure r = s.readFails r .identNoAnswer) := by
  constructor <;> intro h <;> simp [attemptFailure, h]

/-! ### Host requests -/

/-- The Host Port: not claimed, discarded as a reused tag, or handled (R148, R150, R153). -/
theorem State.hostRequest_eq (s : State) (r : HostRequest) :
    (s.hostReset = true → s.hostRequest r = s) ∧
    (s.target r.addr = none → s.hostRequest r = s) ∧
    (∀ t, s.hostReset = false → s.target r.addr = some t → s.hostTable.get r.tag = true →
      s.hostRequest r = s.raise .hostTagReuse) ∧
    (∀ offset, s.hostReset = false → s.target r.addr = some (.aperture offset) → s.hostTable.get r.tag = false →
      s.hostRequest r = (s.putHostTag r.tag true).decodeAccess r offset) ∧
    ∀ offset, s.hostReset = false → s.target r.addr = some (.controlBlock offset) →
      s.hostTable.get r.tag = false → s.hostRequest r = (s.putHostTag r.tag true).controlAccess r offset := by
  refine ⟨fun h => ?_, fun h => ?_, fun t h1 h2 h3 => ?_, fun o h1 h2 h3 => ?_, fun o h1 h2 h3 => ?_⟩
  · simp [hostRequest, h]
  · simp [hostRequest, h]
  · simp [hostRequest, h1, h2, h3]
  · simp [hostRequest, h1, h2, h3]
  · simp [hostRequest, h1, h2, h3]

/-- An address lies in the aperture when it lies between the base the strap selects and its last byte (R28, R152). -/
theorem State.target_aperture (s : State) (addr : Word) (offset : Nat) (h1 : addr.toNat = s.apertureBase + offset)
    (h2 : offset ≤ 0x3FFFFFFF) : s.target addr = some (.aperture offset) := by
  have : s.apertureBase ≤ addr.toNat ∧ addr.toNat ≤ s.apertureBase + 0x3FFFFFFF := by omega
  simp [target, this]
  omega

/-- An address of the control block; the block lies in neither aperture (R148, R152). -/
theorem State.target_controlBlock (s : State) (addr : Word) (offset : Nat) (h1 : addr.toNat = s.controlBase + offset)
    (h2 : offset ≤ 0xFF) : s.target addr = some (.controlBlock offset) := by
  have h3 : ¬(s.apertureBase ≤ addr.toNat ∧ addr.toNat ≤ s.apertureBase + 0x3FFFFFFF) := by
    have : s.apertureBase ≤ 0x80000000 := by unfold apertureBase; split <;> omega
    have : 0xF0000000 ≤ s.controlBase := by unfold controlBase; omega
    omega
  have h4 : s.controlBase ≤ addr.toNat ∧ addr.toNat ≤ s.controlBase + 0xFF := by omega
  simp [target, h3, h4]
  omega

/-- A write of the command code word: an overrun while EXECUTING, else an issue (R127, R128). -/
theorem State.writeCode_eq (s : State) (code : Word) :
    (s.engine.state = .executing →
      s.writeCode code = (s.putEngine { s.engine with overrun := true }).raise .cmdOverrun) ∧
    (s.engine.state ≠ .executing →
      s.writeCode code =
        s.putEngine
          { s.engine with
            state := .executing
            takenCode := code
            takenOperands := s.engine.operands
            results := noWords }) := by
  constructor
  · intro h
    simp [writeCode, h]
  · intro h
    unfold writeCode
    split
    · rename_i e
      exact absurd e h
    · rfl

/-- ACK: nothing when no source is selected, else the cause set emptied and the priority in service (R115). -/
theorem State.takeAck_eq (s : State) (l : LineIx) :
    (s.selected l = none → s.takeAck l = s) ∧
    ∀ i, s.selected l = some i →
      s.takeAck l =
        (s.putSource i { s.sources.get i with causes := 0 }).putLine l
          (serviceAdd (s.lines.get l) (s.sources.get i).priority) := by
  constructor
  · intro h
    simp [takeAck, h]
  · intro i h
    simp [takeAck, h]

/-- EOS: SPURIOUS_EOS on an empty set, else the greatest priority removed (R117, R118). -/
theorem State.takeEos_eq (s : State) (l : LineIx) :
    (inServiceMax (s.lines.get l) = none → s.takeEos l = s.raise .spuriousEos) ∧
    ∀ p, inServiceMax (s.lines.get l) = some p →
      s.takeEos l = s.putLine l (serviceRemove (s.lines.get l) p) := by
  constructor
  · intro h
    simp [takeEos, h]
  · intro p h
    simp [takeEos, h]

/-- The in-service maximum is the greatest priority of the set (R112). -/
theorem inServiceMax_eq_some (set : Byte) (p : Fin 8) :
    inServiceMax set = some p ↔ inService set p = true ∧ ∀ q, inService set q = true → q ≤ p := by
  revert set p
  decide

end Sys2Proof.Machine
end

