-- ==== Sys2Proof/Laws/Safe.lean ====
section
/-! SUPPORT. A check of `Safe` that computes, and its soundness: how a concrete state is shown to meet `Safe`. -/

namespace Sys2Proof.Machine

/-- The windows that are not FREE. -/
def State.usedWindows (s : State) : List WinIx := (List.finRange 64).filter fun w => s.windows.get w != .free

/-- Two windows neither share a page nor a grant. -/
def Window.apartFrom (x y : Window) : Bool :=
  match x.mapping, y.mapping with
  | some a, some b =>
    (decide (a.base + a.pages ≤ b.base) || decide (b.base + b.pages ≤ a.base))
      && !(a.slot == b.slot && a.request == b.request && a.request.isSome)
  | _, _ => true

theorem Window.apartFrom_symm (x y : Window) (h : x.apartFrom y = true) : y.apartFrom x = true := by
  unfold apartFrom at *
  cases hx : x.mapping <;> cases hy : y.mapping <;> simp only [hx, hy] at h ⊢
  rename_i a b
  simp only [Bool.and_eq_true, Bool.or_eq_true, decide_eq_true_eq, Bool.not_eq_true', Bool.and_eq_false_iff,
    beq_eq_false_iff_ne, ne_eq] at h ⊢
  refine ⟨h.1.symm, ?_⟩
  by_cases hs : b.slot = a.slot
  · by_cases hq : b.request = a.request
    · rcases h.2 with (k | k) | k
      · exact absurd hs.symm k
      · exact absurd hq.symm k
      · exact .inr (by rw [hq]; exact k)
    · exact .inl (.inr hq)
  · exact .inl (.inl hs)

theorem Window.covers_of_apartFrom {x y : Window} (h : x.apartFrom y = true) {page : Nat}
    (hx : x.covers page = true) : y.covers page = false := by
  unfold apartFrom at h
  unfold covers at *
  cases ex : x.mapping <;> cases ey : y.mapping <;> simp_all
  omega

theorem Window.grants_of_apartFrom {x y : Window} (h : x.apartFrom y = true) {n : SlotIx} {q : Fin 6}
    (hx : x.grants n q = true) : y.grants n q = false := by
  by_contra hy
  unfold apartFrom at h
  unfold grants at *
  cases ex : x.mapping <;> cases ey : y.mapping <;> simp_all

theorem pairwise_of_mem_ne {α : Type} {R : α → α → Prop} (symm : ∀ a b, R a b → R b a) {l : List α}
    (h : l.Pairwise R) : ∀ a b, a ∈ l → b ∈ l → a ≠ b → R a b := by
  induction h with
  | nil => intro a b ha; cases ha
  | cons hx _ ih =>
    intro a b ha hb hne
    rcases List.mem_cons.1 ha with rfl | ha'
    · rcases List.mem_cons.1 hb with rfl | hb'
      · exact absurd rfl hne
      · exact hx _ hb'
    · rcases List.mem_cons.1 hb with rfl | hb'
      · exact symm _ _ (hx _ ha')
      · exact ih a b ha' hb' hne

theorem State.mem_usedWindows (s : State) (w : WinIx) : w ∈ s.usedWindows ↔ s.windows.get w ≠ .free := by
  simp [usedWindows]

/-- Lifecycle, checked. -/
def State.lifecycleCheck (s : State) : Bool :=
  (List.finRange 8).all (fun n => (s.slots.get n).state.goesWith (s.links.get n).state
      && (s.identQueue.contains n == ((s.slots.get n).state == .queued))
      && (((s.slots.get n).state == .identifying) == (s.ident.serving == some n)))
    && decide s.identQueue.Nodup && (s.ident != .idle || s.identQueue.isEmpty) && s.ident.sound

theorem State.lifecycleCheck_sound {s : State} (h : s.lifecycleCheck = true) : LifecycleHeld s := by
  simp only [lifecycleCheck, Bool.and_eq_true, List.all_eq_true, List.mem_finRange, true_implies, decide_eq_true_eq,
    Bool.or_eq_true, bne_iff_ne, ne_eq, List.isEmpty_iff, beq_iff_eq] at h
  obtain ⟨⟨⟨h1, h2⟩, h3⟩, h4⟩ := h
  refine ⟨fun n => (h1 n).1.1, h2, fun n => ?_, fun n => ?_, fun e => h3.resolve_left (fun k => k e), h4⟩
  · have := (h1 n).1.2
    rw [← List.contains_iff_mem, this]
    simp
  · have := (h1 n).2
    rw [← beq_iff_eq, this]
    simp

/-- Ranges, windows and tickets, checked. -/
def State.tablesCheck (s : State) : Bool :=
  s.usedWindows.all (fun w => ((s.windows.get w).mapping.elim true Mapping.inRange) && (s.windows.get w).fits s
      && (match (s.windows.get w).closeTicket with
        | none => true
        | some id => (s.tickets.get (ticketIndex id)).isOpen (.close w)
            && (s.tickets.get (ticketIndex id)).id (ticketIndex id) == id))
    && decide (s.usedWindows.Pairwise fun v w => (s.windows.get v).apartFrom (s.windows.get w) = true)
    && (List.finRange 8).all (fun n => (s.slots.get n).profile.elim true Profile.inRange)
    && decide (s.config.budget ≤ Config.maxBudget)

theorem State.tablesCheck_sound {s : State} (h : s.tablesCheck = true) :
    RangesHeld s ∧ WindowsHeld s ∧ ∀ w id, (s.windows.get w).closeTicket = some id →
      (s.tickets.get (ticketIndex id)).isOpen (.close w) = true ∧
        (s.tickets.get (ticketIndex id)).id (ticketIndex id) = id := by
  simp only [tablesCheck, Bool.and_eq_true, List.all_eq_true, List.mem_finRange, true_implies,
    decide_eq_true_eq] at h
  obtain ⟨⟨⟨hw, hp⟩, hr⟩, hb⟩ := h
  have used : ∀ w, (s.windows.get w).mapping ≠ none → w ∈ s.usedWindows := by
    intro w hm
    rw [mem_usedWindows]
    intro e
    rw [e] at hm
    exact hm rfl
  have pair : ∀ v w, v ≠ w → (s.windows.get v).mapping ≠ none → (s.windows.get w).mapping ≠ none →
      (s.windows.get v).apartFrom (s.windows.get w) = true := by
    intro v w hne hv hw'
    exact pairwise_of_mem_ne (fun _ _ hab => Window.apartFrom_symm _ _ hab) hp v w (used v hv) (used w hw') hne
  refine ⟨⟨?_, ?_, hb⟩, ⟨?_, ?_, ?_⟩, ?_⟩
  · intro w m e
    have := (hw w (used w (by simp [e]))).1.1
    simpa [e] using this
  · intro n p e
    simpa [e] using hr n
  · intro v w page hne hc
    cases ev : (s.windows.get v).mapping with
    | none => simp [Window.covers, ev] at hc
    | some a =>
      cases ew : (s.windows.get w).mapping with
      | none => simp [Window.covers, ew]
      | some b => exact Window.covers_of_apartFrom (pair v w hne (by simp [ev]) (by simp [ew])) hc
  · intro v w n q hne hc
    cases ev : (s.windows.get v).mapping with
    | none => simp [Window.grants, ev] at hc
    | some a =>
      cases ew : (s.windows.get w).mapping with
      | none => simp [Window.grants, ew]
      | some b => exact Window.grants_of_apartFrom (pair v w hne (by simp [ev]) (by simp [ew])) hc
  · intro w
    by_cases e : s.windows.get w = .free
    · simp [e, Window.fits]
    · exact (hw w ((mem_usedWindows s w).2 e)).1.2
  · intro w id e
    have hu : w ∈ s.usedWindows := by
      rw [mem_usedWindows]
      intro k
      rw [k] at e
      cases e
    have := (hw w hu).2
    simpa [e] using this

/-- The tickets' own agreement, checked. -/
def State.ticketsCheck (s : State) : Bool :=
  (List.finRange 8).all (fun j => (List.finRange 8).all fun k => j == k ||
      match (s.tickets.get j).body, (s.tickets.get k).body with
      | .opened (.close v), .opened (.close w) => v != w
      | .opened a, .opened b => (List.finRange 8).all fun n => !(a.onSlot n && b.onSlot n)
      | _, _ => true)
    && (List.finRange 8).all (fun k =>
      match (s.tickets.get k).body with
      | .opened op => op.inProgress s ((s.tickets.get k).id k)
      | _ => true)
    && (List.finRange 8).all (fun n =>
      (!((s.slots.get n).state == .powering || (s.slots.get n).state == .linking)
          || (List.finRange 8).any fun k => (s.tickets.get k).isOpen (.admission n))
        && (!((s.slots.get n).state == .ejecting)
          || (List.finRange 8).any fun k => (s.tickets.get k).isOpen (.ejection n)))

theorem State.ticketsCheck_sound {s : State} (h : s.ticketsCheck = true)
    (hc : ∀ w id, (s.windows.get w).closeTicket = some id →
      (s.tickets.get (ticketIndex id)).isOpen (.close w) = true ∧
        (s.tickets.get (ticketIndex id)).id (ticketIndex id) = id) : TicketsHeld s := by
  simp only [ticketsCheck, Bool.and_eq_true, List.all_eq_true, List.mem_finRange, true_implies, Bool.or_eq_true,
    beq_iff_eq] at h
  obtain ⟨⟨h1, h2⟩, h3⟩ := h
  refine ⟨?_, ?_, ?_, hc, ?_, ?_⟩
  · intro w j k hj hk
    rcases h1 j k with e | e
    · exact e
    · unfold Ticket.openFor at hj hk
      split at hj
      · rename_i a ha
        split at hk
        · rename_i b hb
          rw [ha, hb] at e
          cases a <;> cases b <;> simp_all [TicketOp.onWindow]
        · cases hk
      · cases hj
  · intro n j k hj hk
    rcases h1 j k with e | e
    · exact e
    · unfold Ticket.openFor at hj hk
      split at hj
      · rename_i a ha
        split at hk
        · rename_i b hb
          rw [ha, hb] at e
          cases a <;> cases b <;> simp_all [TicketOp.onSlot]
        · cases hk
      · cases hj
  · intro k op ho
    have e := h2 k
    simp only [Ticket.isOpen, beq_iff_eq] at ho
    rw [ho] at e
    exact e
  · intro n hn
    have e := (h3 n).1
    have hs : ((s.slots.get n).state == .powering || (s.slots.get n).state == .linking) = true := by
      simpa using hn
    rw [hs] at e
    simpa using e
  · intro n hn
    have e := (h3 n).2
    rw [hn] at e
    simpa using e

/-- Power, timers, queues, references and host tags, checked. -/
def State.countsCheck (s : State) : Bool :=
  (List.finRange 8).all (fun n => (s.slots.get n).powerFits && (s.slots.get n).timersFit (s.links.get n)
      && decide ((s.links.get n).queue.length ≤ Config.queueCapacity)
      && decide ((s.links.get n).tagsInUse ≤ (s.slots.get n).usableTags.getD 0)
      && ((s.links.get n).state == .up || (s.links.get n).idle)
      && (s.links.get n).heldWindows.all fun w => (s.windows.get w).ofSlot n)
    && decide (s.committed ≤ s.config.budget)
    && (List.finRange 64).all (fun w => (s.windows.get w).refs == s.heldWindows.count w)
    && (List.finRange 16).all (fun t => s.owedTags.count t == if s.hostTable.get t then 1 else 0)

/-- `Safe` for a state in which part reset is not in force, checked. -/
def State.safeCheck (s : State) : Bool :=
  !s.partReset && s.lifecycleCheck && s.tablesCheck && s.ticketsCheck && s.countsCheck

/-- A state that passes the check meets `Safe`. -/
theorem State.safeCheck_sound {s : State} (h : s.safeCheck = true) : Safe s := by
  simp only [safeCheck, Bool.and_eq_true, Bool.not_eq_true'] at h
  obtain ⟨⟨⟨⟨hp, hl⟩, ht⟩, hk⟩, hc⟩ := h
  simp only [countsCheck, Bool.and_eq_true, List.all_eq_true, List.mem_finRange, true_implies, decide_eq_true_eq,
    Bool.or_eq_true, beq_iff_eq] at hc
  obtain ⟨⟨⟨h1, h2⟩, h3⟩, h4⟩ := hc
  obtain ⟨hr, hw, hclose⟩ := tablesCheck_sound ht
  exact
    { lifecycle := lifecycleCheck_sound hl
      reset := fun e => by rw [hp] at e; cases e
      power := ⟨fun n => (h1 n).1.1.1.1.1, h2⟩
      timers := fun n => (h1 n).1.1.1.1.2
      ranges := hr
      windows := hw
      references := ⟨h3, fun n => (h1 n).2⟩
      queues := ⟨fun n => (h1 n).1.1.1.2, fun n => (h1 n).1.1.2, fun n e => ((h1 n).1.2).resolve_left e⟩
      hostTags := h4
      tickets := ticketsCheck_sound hk hclose }

end Sys2Proof.Machine
end

