-- ==== Sys2Proof/Tests/Slice0.lean ====
section
/-! SUPPORT. Tests of one step each, with the values of the spec's own examples, and a witness for the hypotheses of
every statement. The states below are those of the worked sequences (chapters 1 to 10). -/

namespace Sys2Proof.Tests

open Sys2Proof.Machine Sys2Proof.Expected

/-! ### The states of the worked sequences -/

/-- The state after one command; every command answers a next state. -/
def after (c : Instr) (s : State) : State :=
  match exec c s with
  | .next t => t
  | _ => s

/-- A command in execution with these taken operand words. -/
def issued (code : Word) (o : Tbl 4 Word) (s : State) : State :=
  s.putEngine { s.engine with state := .executing, takenCode := code, takenOperands := o }

/-- 10.1: the two requests of 1.11, power units 12, cause mask with causes 0 and 4. -/
def profile3 : Profile where
  vendorCode := 0x1234
  moduleKind := 0x5678
  revision := 0x02
  powerUnits := 12
  attentionMask := 0x11
  hardwareBuild := 0x07
  serial := 0xA1B2C3D4
  requests :=
    [{ kind := .mem, writable := true, alignment := 4, pages := 256, base := 0 },
      { kind := .reg, writable := false, alignment := 0, pages := 4, base := 0x80000 }]

/-- 1.11: windows 0, 1 and 2 of slot 3. -/
def mapping0 : Mapping where
  slot := 3
  request := some 0
  kind := .mem
  rights := .readWrite
  base := 4096
  pages := 256
  moduleBase := 0

/-- 1.11 -/
def mapping1 : Mapping where
  slot := 3
  request := some 1
  kind := .reg
  rights := .read
  base := 4352
  pages := 4
  moduleBase := 0x80000

/-- 1.11 -/
def mapping2 : Mapping where
  slot := 3
  request := none
  kind := .reg
  rights := .readWrite
  base := 4608
  pages := 8
  moduleBase := 0x80000

/-- 10.1 start: a budget of 40 units, SLOT(3) enabled on line 0 at priority 4. -/
def start : State :=
  { State.reset with config := { PartConfig.reset with budget := 40 } }.putSource 11
    { Source.reset with enable := true, priority := 4 }

/-- A slot record with the profile held. -/
def holding (state : SlotState) : Slot := { Slot.reset with state, profile := some profile3 }

/-- A powered slot record: 12 units committed. -/
def powered (state : SlotState) : Slot := { holding state with committedUnits := 12, mainPower := true }

/-- A ticket record OPEN for an operation, its sequence 1. -/
def opened (op : TicketOp) : Ticket := { sequence := 1, body := .opened op }

/-- 10.1: slot 3 IDENTIFIED, the windows of 1.11 STAGED. -/
def identified : State :=
  (((start.putSlot 3 (holding .identified)).putWindow 0 (.staged mapping0)).putWindow 1 (.staged mapping1)).putWindow 2
    (.staged mapping2)

/-- 10.1: slot 3 POWERING, its power timer in this phase, ticket 8 OPEN. -/
def powering (timer : PowerTimer) : State :=
  (identified.putSlot 3 { powered .powering with powerTimer := some timer }).putTicket 0 (opened (.admission 3))

/-- 10.1: slot 3 LINKING, its link TRAINING. -/
def linking : State :=
  ((identified.putSlot 3 (powered .linking)).putTicket 0 (opened (.admission 3))).putLink 3
    { Link.reset with state := .training, trainingTimer := some 20000 }

/-- 10.1: slot 3 ACTIVE with 4 usable tags, before its windows are opened; ticket record 0 is FREE, sequence 1. -/
def admitted : State :=
  ((identified.putSlot 3 { powered .active with usableTags := some 4 }).putTicket 0
    { sequence := 1, body := .free }).putLink 3 { Link.reset with state := .up }

/-- 10.1, end: slot 3 ACTIVE, windows 0, 1 and 2 OPEN. -/
def active : State :=
  ((admitted.putWindow 0 (.opened mapping0 0)).putWindow 1 (.opened mapping1 0)).putWindow 2 (.opened mapping2 0)

/-- An in-flight request of window 0 of slot 3. -/
def request (op : Op) (addr : Word) (size : Size) (hostTag : Option HostTag) : TagRecord where
  window := 0
  hostTag := hostTag
  orphaned := false
  op := op
  addr := addr
  size := size
  timer := 2000

/-- 10.2 start: accesses A, B and C in flight through window 0. -/
def traffic : State :=
  (((active.putWindow 0 (.opened mapping0 3)).putLink 3
    { Link.reset with
      state := .up
      tags := (((Tbl.fill .free).put 0 (.inFlight (request .read 0x40 .four (some 2)))).put 1
        (.inFlight (request .write 0x1000 .four none))).put 2 (.inFlight (request .read 0x2002 .two (some 4))) }).putHostTag
    2 true).putHostTag 4 true

/-- 10.2: window 0 CLOSING with TO_FREE under ticket 16, C alone in flight. -/
def lastReference : State :=
  (((active.putWindow 0 (.closing mapping0 1 .toFree (some 16))).putTicket 0
    { sequence := 2, body := .opened (.close 0) }).putLink 3
    { Link.reset with
      state := .up
      tags := (Tbl.fill .free).put 2 (.inFlight (request .read 0x2002 .two (some 4))) }).putHostTag 4 true

/-- A queue entry of window 0: a posted write. -/
def postedEntry : Entry where
  window := 0
  op := .write
  addr := 0x100
  size := .four
  data := [0x11, 0x22, 0x33, 0x44]
  hostTag := none

/-- A queue entry of window 0: a READ for host tag 6. -/
def readEntry : Entry := { postedEntry with op := .read, data := [], hostTag := some 6 }

/-- 2.7: sixteen entries queued through window 0, the last a READ for host tag 6, and tag 0 STALE. -/
def full : State :=
  ((active.putWindow 0 (.opened mapping0 16)).putLink 3
    { Link.reset with
      state := .up
      queue := List.replicate 15 postedEntry ++ [readEntry]
      tags := (Tbl.fill .free).put 0 (.stale (request .read 0x40 .four (some 2))) }).putHostTag 6 true

/-- A posted write and a READ for host tag 6 queued through window 0. -/
def queued : State :=
  ((active.putWindow 0 (.opened mapping0 2)).putLink 3
    { Link.reset with state := .up, queue := [postedEntry, readEntry] }).putHostTag 6 true

/-- 3.14: slot 3 EJECTING with one READ in flight, window 0 CLOSING, the removal filter running. -/
def ejecting : State :=
  ((((admitted.putSlot 3 { powered .ejecting with usableTags := some 4, removalFilter := some 2000 }).putWindow 0
    (.closing mapping0 1 .toStaged none)).putTicket 0 (opened (.ejection 3))).putLink 3
    { Link.reset with
      state := .up
      tags := (Tbl.fill .free).put 0 (.inFlight (request .read 0x40 .four (some 2))) }).putHostTag 2 true

/-- 10.4: slot 3 EJECTING, QUIESCE sent, the quiesce timer running. -/
def quiescing : State :=
  (((admitted.putSlot 3 { powered .ejecting with usableTags := some 4, quiesceTimer := some 10000 }).putTicket 0
    (opened (.ejection 3))).putLink 3 { Link.reset with state := .quiescing })

/-- A slot FAULTED with a held profile. -/
def faulted : State := identified.putSlot 3 (holding (.faulted .linkLost))

/-- The read in progress of slot 4 (4.9); the part's bytes of its transaction are acknowledged once image bytes of it have
come. -/
def readOf (attempt : Nat) (phase : Phase) (bytes : List Byte) (imageLength : Option Nat) : ReadRecord where
  slot := 4
  attempt := attempt
  clock := .khz100
  phase := phase
  sent := if bytes.length = 0 ∨ bytes.length = 4 then 0 else 3
  bytes := bytes
  imageLength := imageLength

/-- 4.9: slot 4 in service, slots 1 and 6 waiting; the removal filter of slot 4 runs. -/
def identifying (c : IdentCtl) : State :=
  ((((start.putSlot 4 { Slot.reset with state := .identifying, removalFilter := some 2000 }).putSlot 1
    { Slot.reset with state := .queued, removalFilter := some 2000 }).putSlot 6
    { Slot.reset with state := .queued }).putIdentQueue [1, 6]).putIdent c

/-- 4.9: slot 1 gone within a body byte, slot 6 waiting. -/
def abandoning : State :=
  ((start.putSlot 6 { Slot.reset with state := .queued }).putIdentQueue [6]).putIdent
    (.abandoning (readOf 1 .body [1, 2, 33, 0] (some 33)))

/-- Slot 3 SETTLING, as presence left it (10.1). -/
def settling : State :=
  start.putSlot 3 { Slot.reset with state := .settling, settleTimer := some 100000 }

/-- 10.4: the four sources on line 0; HOST_TAG_REUSE and CMD_DONE pending, priority 3 in service. -/
def routed : State :=
  ((((State.reset.putSource 10 { causes := 0, enable := true, line := 0, priority := 3 }).putSource 2
    { causes := 0, enable := true, line := 0, priority := 5 }).putSource 16
    { causes := 0x01, enable := true, line := 0, priority := 6 }).putSource 17
    { causes := 0x01, enable := true, line := 0, priority := 3 }).putLine 0 0x08

/-- Part reset in force, a module seated in slot 3. -/
def inReset : State := { (after .partReset start).putPresence 3 true with partReset := true }

/-- 7.3: no ticket record is FREE; slot 3 ACTIVE. -/
def noTickets : State :=
  { active with tickets := Tbl.fill { sequence := 1, body := .finished (.recovery 0) .success none } }

/-- All 64 windows STAGED for slot 3, each on the 8 pages 8w to 8w + 7. -/
def everyWindow : State :=
  { identified with windows := Tbl.make fun w => .staged { mapping2 with base := 8 * w.val } }

/-- A window of slot 3 OPEN with no profile request granted, all the others FREE. -/
def hostDefined : State := { active with windows := (Tbl.fill .free).put 63 (.opened mapping2 0) }

theorem safe_identified : Safe identified := State.safeCheck_sound (by decide)
theorem safe_powering : Safe (powering (.waiting 100000)) := State.safeCheck_sound (by decide)
theorem safe_qualifying : Safe (powering (.qualifying 1000)) := State.safeCheck_sound (by decide)
theorem safe_linking : Safe linking := State.safeCheck_sound (by decide)
theorem safe_active : Safe active := State.safeCheck_sound (by decide)
theorem safe_traffic : Safe traffic := State.safeCheck_sound (by decide)
theorem safe_lastReference : Safe lastReference := State.safeCheck_sound (by decide)
theorem safe_queued : Safe queued := State.safeCheck_sound (by decide)
theorem safe_full : Safe full := State.safeCheck_sound (by decide)
theorem safe_ejecting : Safe ejecting := State.safeCheck_sound (by decide)
theorem safe_quiescing : Safe quiescing := State.safeCheck_sound (by decide)
theorem safe_faulted : Safe faulted := State.safeCheck_sound (by decide)
theorem safe_busClear : Safe (identifying (.reading (readOf 1 .busClear [] none))) :=
  State.safeCheck_sound (by decide)
theorem safe_abandoning : Safe abandoning := State.safeCheck_sound (by decide)

/-! ### WellFormed refuses -/

theorem test_wellFormed_aperture_outside :
    (Instr.apertureAccess 0 .read 0x3FFFFFFF .one 0).wellFormed = false ∧
      (Instr.apertureAccess 0 .read 0xC0000000 .one 0).wellFormed = false := by decide

theorem test_wellFormed_block_write_outside :
    (Instr.controlBlockWrite 0 0xF0000100 .four 0).wellFormed = false := by decide

theorem test_wellFormed_block_read_outside :
    (Instr.commandStatusRead 0 0xF0004024 .four).wellFormed = false := by decide

theorem test_wellFormed_completion_three_bytes :
    (Instr.completion 3 0 .ok [0x11, 0x22, 0x33]).wellFormed = false := by decide

theorem test_wellFormed_body_run :
    (Instr.bodyTransaction []).wellFormed = false ∧
      (Instr.bodyTransaction (List.replicate 65 .acknowledged)).wellFormed = false := by decide

theorem test_no_word_spells_a_command : decodeTableWord 0 0 = none := by decide

/-! ### Host requests -/

/-- 1.11: the host address 0x4110_0010 reaches module address 0x8000_0010 through window 1. -/
theorem test_aperture_access_translates :
    (((after (.apertureAccess 2 .read 0x41100010 .four 0) active).links.get 3).queue.map fun e => (e.window, e.addr))
      = [(1, 0x80000010)] := by decide

/-- 1.11: a write to 0x4110_0010 is refused DENIED, because window 1 allows READ alone. -/
theorem test_aperture_access_denied :
    (after (.apertureAccess 2 .write 0x41100010 .four 0) active).out.responses.get 2
      = some { code := .denied, data := none } := by decide

/-- 7.8: thread A writes operand 0 = 7. -/
theorem test_control_block_write_operand :
    (after (.controlBlockWrite 0 0xF0000010 .four 7) active).engine.operands.get 0 = 7 := by decide

/-- 10.4: with priorities 3, 5 and 6 in service the line summary reads 0x0000_000E. -/
theorem test_line_summary_read :
    (after (.commandStatusRead 0 0xF0000060 .four) (routed.putLine 0 0x68)).out.responses.get 0
      = some { code := .ok, data := some 0x0000000E } := by decide

/-- 7.8: the read of the command status word returns ACCEPTED with the overrun flag, and clears it. -/
theorem test_command_status_read_clears_overrun :
    let t := after (.commandStatusRead 0 0xF0000024 .four)
      (start.putEngine { Engine.reset with state := .finished .accepted, overrun := true })
    t.out.responses.get 0 = some { code := .ok, data := some 0x00010202 } ∧ t.engine.overrun = false := by decide

/-- 10.4: ACK returns 16, CMD_DONE; the in-service set is then 3 and 6. -/
theorem test_ack_returns_command_done :
    let t := after (.ack 0 0) routed
    t.out.responses.get 0 = some { code := .ok, data := some 0x00000110 } ∧ t.lines.get 0 = 0x48 := by decide

/-- 10.4: two sources at priority 3, the ACK takes source 10 by the lower number. -/
theorem test_ack_lowest_source :
    (after (.ack 0 0)
      (((routed.putLine 0 0).putSource 16 Source.reset).putSource 10
        { causes := 0x04, enable := true, line := 0, priority := 3 })).out.responses.get 0
      = some { code := .ok, data := some 0x0000040A } := by decide

/-- 10.4: EOS on 3 and 6 leaves 3. -/
theorem test_eos_removes_greatest : (after (.eos 0 0 0xFFFFFFFF) (routed.putLine 0 0x48)).lines.get 0 = 0x08 := by
  decide

/-- 6.10: an EOS on an empty set raises SPURIOUS_EOS. -/
theorem test_eos_spurious : ((after (.eos 0 1 0) start).sources.get 17).causes = 0x02 := by decide

/-- 7.8: a code write while EXECUTING sets the overrun flag and raises CMD_OVERRUN. -/
theorem test_cmd_overrun :
    let t := after (.cmdOverrun 0 0x10) (issued 0x03 (words 7 0 0 0) start)
    t.engine.overrun = true ∧ (t.sources.get 17).causes = 0x04 ∧ t.engine.takenCode = 0x03 := by decide

/-- 7.8: the operands are taken at issue. -/
theorem test_command_issue_takes_operands :
    let t := after (.commandIssue 0 0x03) (start.putEngine { Engine.reset with operands := words 7 0 0 0 })
    t.engine.state = .executing ∧ t.engine.takenOperands = words 7 0 0 0 := by decide

/-! ### Commands -/

/-- The result code and the first result word a completion leaves. -/
def result (c : Instr) (s : State) : EngineState × Word := ((after c s).engine.state, (after c s).engine.results.get 0)

theorem test_nop : result .nop (issued 0x00 (words 9 9 9 9) start) = (.finished .ok, 0) := by decide

theorem test_bad_command : result .badCommand (issued 0x07 noWords start) = (.finished .badCommand, 0) := by decide

/-- 1.11: request 1, READ+WRITE asked, aperture base 0x1100: OK with window 1, which allows READ. -/
theorem test_win_stage_second :
    let s := issued 0x01 (words 0x0003137F 0x1100 0 0) ((identified.putWindow 1 .free).putWindow 2 .free)
    result .winStage s = (.finished .ok, 1) ∧ (after .winStage s).windows.get 1 = .staged mapping1 := by decide

/-- 1.11: host-defined, base 0x10FC, 8 pages: OVERLAP. -/
theorem test_win_stage_overlap :
    result .winStage (issued 0x01 (words 0x0013737F 0x10FC 8 0x80000) (identified.putWindow 2 .free))
      = (.finished .overlap, 0) := by decide

/-- 1.11: WIN_OPEN of a window of an IDENTIFIED slot: SLOT_STATE. -/
theorem test_win_open_identified :
    result .winOpen (issued 0x02 (words 0 0 0 0) identified) = (.finished .slotState, 0) := by decide

/-- 10.1: WIN_OPEN of an ACTIVE slot's window. -/
theorem test_win_open_active :
    (after .winOpen (issued 0x02 (words 1 0 0 0) admitted)).windows.get 1 = .opened mapping1 0 := by decide

/-- 10.2: WIN_CLOSE of window 0 with references 3: ACCEPTED, 16. -/
theorem test_win_close :
    let s := issued 0x03 (words 0 0 0 0) traffic
    result .winClose s = (.finished .accepted, 16) ∧
      (after .winClose s).windows.get 0 = .closing mapping0 3 .toStaged (some 16) := by decide

/-- 10.2: WIN_RELEASE of the CLOSING window. -/
theorem test_win_release_closing :
    (after .winRelease (issued 0x04 (words 0 0 0 0)
      (lastReference.putWindow 0 (.closing mapping0 1 .toStaged (some 16))))).windows.get 0
      = .closing mapping0 1 .toFree (some 16) := by decide

/-- R155 on the CLOSING window of 10.2, with the bits of its table. -/
theorem test_win_read_closing :
    (after .winRead (issued 0x05 (words 0 0 0 0) lastReference)).engine.results
      = words 0x01030833 0x10801000 0x03000100 0 := by decide

/-- 1.11: page 4,608 is covered by window 2, STAGED. -/
theorem test_win_lookup_staged :
    result .winLookup (issued 0x06 (words 4608 0 0 0) identified) = (.finished .ok, 0x00000102) := by decide

theorem test_win_lookup_none :
    result .winLookup (issued 0x06 (words 4616 0 0 0) identified) = (.finished .ok, 0x80000000) := by decide

/-- R155 on slot 3 of 10.1 in POWERING: state 5, a profile of 2 requests, 12 units declared and committed; ticket 8. -/
theorem test_slot_read_powering :
    (after .slotRead (issued 0x10 (words 3 0 0 0) (powering (.waiting 100000)))).engine.results
      = words 0x0C0C0505 0x00080100 0 0 := by decide

/-- R155 on request 1 of 1.11: item 2. -/
theorem test_profile_read_request :
    (after .profileRead (issued 0x11 (words 0x203 0 0 0) identified)).engine.results
      = words 0x00018011 4 0x80000 0 := by decide

/-- R155 on the identity fields: item 0. -/
theorem test_profile_read_identity :
    (after .profileRead (issued 0x11 (words 0x003 0 0 0) identified)).engine.results
      = words 0x56781234 0x07110C02 0xA1B2C3D4 2 := by decide

/-- 10.1: SLOT_ADMIT of slot 3: POWERING, power timer 100 ms, id 8. -/
theorem test_slot_admit :
    let s := issued 0x12 (words 3 0 0 0) identified
    result .slotAdmit s = (.finished .accepted, 8) ∧
      (after .slotAdmit s).slots.get 3 = { powered .powering with powerTimer := some (.waiting 100000) } := by decide

/-- 3.4: no admission beyond the budget. -/
theorem test_slot_admit_no_power :
    result .slotAdmit (issued 0x12 (words 3 0 0 0) { identified with config := { PartConfig.reset with budget := 11 } })
      = (.finished .noPower, 0) := by decide

/-- 8.8: SLOT_EJECT of a slot with no traffic: the quiesce condition holds at once, QUIESCE is sent. -/
theorem test_slot_eject_quiesces :
    let t := after .slotEject (issued 0x13 (words 3 0 0 0) active)
    t.out.packets.get 3 = some .quiesce ∧ (t.links.get 3).state = .quiescing ∧
      t.windows.get 0 = .staged mapping0 := by decide

/-- 10.2 traffic: the window with references closes and the quiesce waits. -/
theorem test_slot_eject_waits :
    let t := after .slotEject (issued 0x13 (words 3 0 0 0) traffic)
    (t.links.get 3).state = .up ∧ t.windows.get 0 = .closing mapping0 3 .toStaged none := by decide

/-- 4.9: SLOT_RECOVER puts the slot at the tail of the queue. -/
theorem test_slot_recover_queues :
    let s := (identifying (.reading (readOf 1 .busClear [] none))).putSlot 3 (holding (.faulted .linkLost))
    let t := after .slotRecover (issued 0x14 (words 3 0 0 0) s)
    t.identQueue = [1, 6, 3] ∧ (t.slots.get 3).state = .queued ∧ (t.slots.get 3).profile = none := by decide

theorem test_slot_clear_posted :
    ((after .slotClearPosted (issued 0x15 (words 3 0 0 0)
      (active.putSlot 3
        { powered .active with
          usableTags := some 4
          posted := some { window := 0, addr := 0x1000, cause := .timeout, more := true } }))).slots.get 3).posted
      = none := by decide

/-- 6.10: SRC_ROUTE of MODULE(3): enabled, line 2, priority 5; its cause stays. -/
theorem test_src_route :
    (after .srcRoute (issued 0x20 (words 0x00052103 0 0 0)
      (start.putSource 3 { Source.reset with causes := 0x10 }))).sources.get 3
      = { causes := 0x10, enable := true, line := 2, priority := 5 } := by decide

/-- R155 on source 16 of 10.4: CMD_DONE, enabled, line 0, priority 6. -/
theorem test_src_read : result .srcRead (issued 0x21 (words 16 0 0 0) routed) = (.finished .ok, 0x00060101) := by
  decide

/-- 10.2: TICKET_READ 16 after the drain: DONE, CLOSE, window 0, SUCCESS, FREE. -/
theorem test_ticket_read_done :
    result .ticketRead (issued 0x30 (words 16 0 0 0)
      (active.putTicket 0 { sequence := 2, body := .finished (.close 0) .success (some .free) }))
      = (.finished .ok, 0x02010002) := by decide

/-- 8.8: a stale id meets NO_SUCH_TICKET. -/
theorem test_ticket_read_stale :
    result .ticketRead (issued 0x30 (words 8 0 0 0) lastReference) = (.finished .noSuchTicket, 0) := by decide

/-- 8.8: TICKET_COLLECT of an OPEN ticket. -/
theorem test_ticket_collect_open :
    result .ticketCollect (issued 0x31 (words 16 0 0 0) lastReference) = (.finished .ticketOpen, 0) := by decide

/-- 10.1: PART_CONFIG with every default except a budget of 40. -/
theorem test_part_config :
    (after .partConfig (issued 0x40 (words 0x00000312 40 0 0) State.reset)).config
      = { settle := .ms100, power := .ms100, completion := .ms2, clock := .khz100, budget := 40 } := by decide

theorem test_part_config_in_use :
    result .partConfig (issued 0x40 (words 0x00000312 11 0 0) active) = (.finished .budgetInUse, 0) := by decide

theorem test_part_config_read :
    (after .partConfigRead (issued 0x41 noWords start)).engine.results = words 0x00000312 40 0 0 := by decide

/-! ### Resets -/

theorem test_part_reset_clears : (after .partReset active).windows.get 0 = .free := by decide

theorem test_part_reset_end_settles :
    let t := after (.partResetEnd true 0x2) inReset
    t.apStrap = true ∧ t.cbStrap = 0x2 ∧ (t.slots.get 3).settleTimer = some 100000 ∧
      (t.slots.get 2).state = .empty := by decide

/-- R42, R103: the READ of host tag 6 leaves the queue, the posted writes stay. -/
theorem test_host_port_reset_keeps_posted :
    let t := after .hostPortReset queued
    (t.links.get 3).queue = [postedEntry] ∧ (t.windows.get 0).refs = 1 ∧
      t.hostTable.get 6 = false := by decide +kernel

theorem test_host_port_reset_release : (after .hostPortResetRelease { start with hostReset := true }).hostReset = false := by
  decide

/-! ### Slot events -/

/-- 10.1: presence asserts: SETTLING, settle timer 100 ms. -/
theorem test_presence_asserted : (after (.presenceAsserted 3) start).slots.get 3 = settling.slots.get 3 := by decide

/-- 3.14: presence deasserts: the removal filter runs, 2 ms. -/
theorem test_presence_deasserted :
    ((after (.presenceDeasserted 3) active).slots.get 3).removalFilter = some 2000 := by decide

/-- 10.1: settle expiry: IDENTIFYING, the controller READING at attempt 1. -/
theorem test_settle_timer_expiry :
    let t := after (.settleTimerExpiry 3) settling
    (t.slots.get 3).state = .identifying ∧ t.ident = .reading { readOf 1 .busClear [] none with slot := 3 } := by decide

/-- 3.14: removed while EJECTING: host tag 2 answered SLOT_GONE, the ticket OVERTAKEN, REMOVED alone. -/
theorem test_removal_while_ejecting :
    let t := after (.removalFilterExpiry 3 { passed := 0, withinByte := false }) ejecting
    t.out.responses.get 2 = some { code := .slotGone, data := none } ∧
      (t.tickets.get 0).body = .finished (.ejection 3) .overtaken none ∧ (t.sources.get 11).causes = 0x08 := by decide

/-- 4.9: removed within a body byte: the controller ABANDONING with the bytes received, the slot EMPTY. -/
theorem test_removal_within_byte :
    let r := readOf 1 .body [1, 2, 33, 0, 0x34, 0x12] (some 33)
    let t := after (.removalFilterExpiry 4 { passed := 0, withinByte := true }) (identifying (.reading r))
    t.ident = .abandoning r ∧ t.slots.get 4 = Slot.reset ∧ t.identQueue = [1, 6] := by decide

/-- 10.1: power good asserts: qualifying, 1 ms. -/
theorem test_power_good_asserted :
    ((after (.powerGoodAsserted 3) (powering (.waiting 100000))).slots.get 3).powerTimer = some (.qualifying 1000) := by
  decide

/-- 3.14: power good falls while EJECTING: POWER_LOST, host tag 2 answered SLOT_FAULT, the ticket FAILED. -/
theorem test_power_good_loss :
    let t := after (.powerGoodLoss 3) ejecting
    (t.slots.get 3).state = .faulted .powerLost ∧ t.out.responses.get 2 = some { code := .slotFault, data := none } ∧
      (t.tickets.get 0).body = .finished (.ejection 3) .failed (some (.fault .powerLost)) ∧
      t.windows.get 0 = .staged mapping0 := by decide

/-- 10.1: qualification expiry: LINKING, the link TRAINING for 20 ms. -/
theorem test_qualification_expiry :
    let t := after (.qualificationExpiry 3) (powering (.qualifying 1000))
    (t.slots.get 3).state = .linking ∧ t.links.get 3 = linking.links.get 3 := by decide

/-- 3.5: the power timeout: main power off, the units returned. -/
theorem test_power_timer_expiry :
    (after (.powerTimerExpiry 3) (powering (.waiting 100000))).slots.get 3 = holding (.faulted .powerTimeout) := by
  decide

theorem test_training_timer_expiry :
    ((after (.trainingTimerExpiry 3) linking).slots.get 3).state = .faulted .linkTimeout := by decide

/-- 8.8: the quiesce timer's expiry: IDENTIFIED, the ticket FORCED. -/
theorem test_quiesce_timer_expiry :
    let t := after (.quiesceTimerExpiry 3) quiescing
    t.slots.get 3 = holding .identified ∧ (t.tickets.get 0).body = .finished (.ejection 3) .forced none := by decide

/-! ### The slot link -/

/-- 10.1: READY, count 4: ACTIVE, the link UP, ADMITTED, the ticket SUCCESS. -/
theorem test_ready :
    let t := after (.ready 3 4) linking
    t.slots.get 3 = { powered .active with usableTags := some 4 } ∧ (t.sources.get 11).causes = 0x02 ∧
      (t.tickets.get 0).body = .finished (.admission 3) .success none := by decide

theorem test_ready_bad_count : ((after (.ready 3 9) linking).slots.get 3).state = .faulted .linkProtocol := by decide

/-- 5.11: with tag 0 STALE the head entry goes under tag 1, the lowest FREE one. -/
theorem test_send_request :
    let t := after (.sendRequest 3) full
    t.out.packets.get 3 = some (.write 1 0x100 .four [0x11, 0x22, 0x33, 0x44]) ∧
      (t.links.get 3).queue.length = 15 := by decide

/-- 10.2: COMPLETION of tag 0, OK, 4 bytes: host tag 2 is answered with the data on its lanes. -/
theorem test_completion_read :
    let t := after (.completion 3 0 .ok [0x11, 0x22, 0x33, 0x44]) traffic
    t.out.responses.get 2 = some { code := .ok, data := some 0x44332211 } ∧ (t.windows.get 0).refs = 2 ∧
      (t.links.get 3).tags.get 0 = .free := by decide

/-- 10.2: a READ of size 2 at 0x2002 answers on the upper lanes. -/
theorem test_completion_lanes :
    (after (.completion 3 2 .ok [0xAA, 0xBB]) traffic).out.responses.get 4
      = some { code := .ok, data := some 0xBBAA0000 } := by decide

/-- 10.2: the completion timer of tag 2 expires: TIMEOUT, quarantine 8 ms, window 0 drains to FREE, the ticket SUCCESS with
detail FREE. -/
theorem test_completion_timer_expiry :
    let t := after (.completionTimerExpiry 3 2) lastReference
    t.out.responses.get 4 = some { code := .timeout, data := none } ∧ t.windows.get 0 = .free ∧
      (t.links.get 3).tags.get 2 = .stale { request .read 0x2002 .two (some 4) with timer := 8000 } ∧
      (t.tickets.get 0).body = .finished (.close 0) .success (some .free) := by decide

theorem test_quarantine_timer_expiry :
    ((after (.quarantineTimerExpiry 3 0) full).links.get 3).tags.get 0 = .free := by decide

/-- 10.1: causes outside the mask are dropped (mask 0x11, causes 4 and 1). -/
theorem test_attention : ((after (.attention 3 0x12) active).sources.get 3).causes = 0x10 := by decide

theorem test_eject_request : ((after (.ejectRequest 3) active).sources.get 11).causes = 0x20 := by decide

/-- 10.4: QUIESCED: the ejection ends SUCCESS, EJECTED raised. -/
theorem test_quiesced :
    let t := after (.quiesced 3) quiescing
    (t.tickets.get 0).body = .finished (.ejection 3) .success none ∧ (t.sources.get 11).causes = 0x04 := by decide

theorem test_unknown_packet_kind :
    ((after (.unknownPacketKind 3) active).slots.get 3).state = .faulted .linkProtocol := by decide

theorem test_packet_check_failure : after (.packetCheckFailure 3) active = active := by decide

/-- 10.3: the link lost under traffic: SLOT_FAULT, the posted write recorded ABORTED. -/
theorem test_link_loss :
    let t := after (.linkLoss 3) traffic
    t.out.responses.get 4 = some { code := .slotFault, data := none } ∧
      (t.slots.get 3).posted = some { window := 0, addr := 0x1000, cause := .aborted, more := false } ∧
      (t.sources.get 11).causes = 0x50 := by decide

/-! ### Identification -/

/-- R79: five pulses free the data line; then the stop condition and the header. -/
theorem test_bus_clear :
    let t := after (.busClear (some 5)) (identifying (.reading (readOf 1 .busClear [] none)))
    t.ident = .reading (readOf 1 .header [] none) ∧
      t.out.ident = [.clockPulse, .clockPulse, .clockPulse, .clockPulse, .clockPulse, .stop] := by decide

/-- A run of image bytes. -/
def images (l : List Byte) : List Transfer := l.map .received

/-- 10.1: header read: version 1, count 2, length 33. R80: the part acknowledges bytes 0 to 2. -/
theorem test_header_transaction :
    let t := after (.headerTransaction (.received 1) (some (.received 2)) (some (.received 33)) (some (.received 0)))
      (identifying (.reading (readOf 1 .header [] none)))
    t.ident = .reading (readOf 1 .body [1, 2, 33, 0] (some 33)) ∧
      t.out.ident =
        [.start, .address 0x5E .write, .offset 0, .start, .address 0x5E .read, .received 1 true, .received 2 true,
          .received 33 true, .received 0 false, .stop] := by decide

/-- R80: one image byte more is added to the read in progress, and bytes received rises from 2 to 3. -/
theorem test_header_byte :
    let t := after (.headerTransaction (.received 33) none none none)
      (identifying (.reading (readOf 1 .header [1, 2] none)))
    t.ident = .reading (readOf 1 .header [1, 2, 33] none) ∧ t.out.ident = [.received 33 true] := by decide

/-- The image of `profile3` as R157 lays it out, from offset 4: 29 bytes, the checksum last. -/
def body3 : List Byte :=
  [0x34, 0x12, 0x78, 0x56, 0x02, 0x0C, 0x11, 0x07, 0xD4, 0xC3, 0xB2, 0xA1, 0x10, 0x04, 0xFF, 0x00, 0x00, 0x00, 0x00,
    0x00, 0x01, 0x00, 0x03, 0x00, 0x00, 0x00, 0x08, 0x00, 0x99]

/-- 10.1: body read, 29 bytes, every check passes: IDENTIFIED with the profile; the next slot is taken (4.9). -/
theorem test_body_transaction :
    let t := after (.bodyTransaction (images body3)) (identifying (.reading (readOf 1 .body [1, 2, 33, 0] (some 33))))
    (t.slots.get 4).state = .identified ∧ (t.slots.get 4).profile = some profile3 ∧
      (t.slots.get 1).state = .identifying ∧ t.identQueue = [6] := by decide +kernel

/-- 4.9: the last byte one off, the sum is not 0: IDENT_BAD_IMAGE. -/
theorem test_body_last_byte_bad_sum :
    let t := after (.bodyTransaction [.received 0x9A])
      (identifying (.reading (readOf 1 .body ([1, 2, 33, 0] ++ body3.take 28) (some 33))))
    (t.slots.get 4).state = .faulted .identBadImage ∧ t.out.ident = [.received 0x9A false, .stop] := by decide

/-- 4.9: the device address is not acknowledged: RETRY_WAIT, attempt 1, 5 ms. -/
theorem test_attempt_fails :
    let t := after .attemptFails (identifying (.reading (readOf 1 .header [] none)))
    t.ident = .retryWait (readOf 1 .header [] none) 5000 ∧
      t.out.ident = [.start, .address 0x5E .write, .stop] := by decide

/-- R81, R82: the offset of the body is not acknowledged in attempt 3. -/
theorem test_third_attempt_fails :
    let t := after .attemptFails
      (identifying (.reading { readOf 3 .body [1, 2, 33, 0] (some 33) with sent := 1 }))
    (t.slots.get 4).state = .faulted .identNoAnswer ∧ t.out.ident = [.offset 4, .stop] := by decide

/-- 4.9: the retry timer expires: READING, attempt 2. -/
theorem test_retry_timer_expiry :
    (after .retryTimerExpiry (identifying (.retryWait (readOf 1 .header [] none) 5000))).ident
      = .reading (readOf 2 .busClear [] none) := by decide

/-- 4.9: the end of the abandoned byte: slot 6 is taken. -/
theorem test_abandoned_byte_end :
    let t := after .abandonedByteEnd abandoning
    t.ident = .reading { readOf 1 .busClear [] none with slot := 6 } ∧ t.identQueue = [] ∧
      t.out.ident = [.abandoned, .stop] := by decide

/-! ### Witnesses: the hypotheses of every statement, met together -/

theorem exec_after (c : Instr) (s : State) : exec c s = .next (after c s) := by
  obtain ⟨t, h⟩ := exec_answers_next c s
  simp [after, h]

theorem not_opened {x : Window} (h : (match x with | .opened _ _ => false | _ => true) = true) :
    ∀ m refs, x ≠ .opened m refs := by
  rintro m refs rfl
  cases h

theorem not_staged {x : Window} (h : (match x with | .staged _ => false | _ => true) = true) :
    ∀ m, x ≠ .staged m := by
  rintro m rfl
  cases h

theorem unclaimed {s : State} {addr : Word}
    (h1 : ¬(apertureBase s ≤ addr.toNat ∧ addr.toNat ≤ apertureBase s + 0x3FFFFFFF))
    (h2 : ¬(controlBase s ≤ addr.toNat ∧ addr.toNat ≤ controlBase s + 0xFF)) (offset : Nat) :
    ¬inAperture s addr offset ∧ ¬inControlBlock s addr offset := by
  constructor <;> rintro ⟨h3, h4⟩ <;> omega

/-- A state on its way through a step: a completion of traffic waits. -/
def waiting : State := { traffic with pending := [.completion 3 0 .ok [0x11, 0x22, 0x33, 0x44]] }

theorem witness_StepTakesFrontCommand : State.reset.pending = [] := by decide

theorem witness_StepKeepsSafe : Safe waiting ∧ ∃ t, step waiting = .next t :=
  ⟨State.safeCheck_sound (by decide), step_answers_next _⟩

theorem witness_StepKeepsSlotsAgreed :
    Safe { linking with pending := [.ready 3 4] } ∧ ∃ t, step { linking with pending := [.ready 3 4] } = .next t :=
  ⟨State.safeCheck_sound (by decide), step_answers_next _⟩

theorem witness_StepKeepsAccessesCounted :
    Safe { full with pending := [.sendRequest 3] } ∧ ∃ t, step { full with pending := [.sendRequest 3] } = .next t :=
  ⟨State.safeCheck_sound (by decide), step_answers_next _⟩

theorem witness_PartResetHoldsRecords :
    inReset.partReset = true ∧ Instr.presenceAsserted 3 ≠ .partReset ∧
      ∀ a b, Instr.presenceAsserted 3 ≠ .partResetEnd a b :=
  ⟨by decide, by decide, fun _ _ h => nomatch h⟩

theorem witness_PartResetEndSamplesInputs :
    inReset.partReset = true ∧ inReset.presence.get 3 = true ∧ inReset.presence.get 2 = false := by decide

/-! #### Host requests -/

theorem witness_RefusedAccessAnswersOnly_misaligned :
    claiming active 2 ∧ inAperture active 0x42000102 0x02000102 ∧ (0x42000102 : Word).toNat % bytes .four ≠ 0 := by
  decide

/-- The last aligned word of the aperture, on page 262,143. -/
theorem witness_RefusedAccessAnswersOnly_noWindow :
    claiming active 2 ∧ inAperture active 0x7FFFFFFC 0x3FFFFFFC ∧ (0x7FFFFFFC : Word).toNat % bytes .four = 0 ∧
      ∀ u, (active.windows.get u).covers (0x3FFFFFFC / 4096) = false := by decide

theorem witness_RefusedAccessAnswersOnly_closed :
    (claiming identified 2 ∧ inAperture identified 0x41000000 0x01000000 ∧
      (0x41000000 : Word).toNat % bytes .four = 0 ∧ coveredBy identified (0x01000000 / 4096) 0) ∧
      ∀ m refs, identified.windows.get 0 ≠ .opened m refs :=
  ⟨by decide, not_opened (by decide)⟩

theorem witness_RefusedAccessAnswersOnly_denied :
    claiming active 2 ∧ inAperture active 0x41100010 0x01100010 ∧ (0x41100010 : Word).toNat % bytes .four = 0 ∧
      coveredBy active (0x01100010 / 4096) 1 ∧ active.windows.get 1 = .opened mapping1 0 ∧
      mapping1.rights = .read := by decide

theorem witness_RefusedAccessAnswersOnly_retry :
    claiming full 7 ∧ inAperture full 0x410FFFFC 0x010FFFFC ∧ (0x410FFFFC : Word).toNat % bytes .four = 0 ∧
      coveredBy full (0x010FFFFC / 4096) 0 ∧ full.windows.get 0 = .opened mapping0 16 ∧
      mapping0.rights = .readWrite ∧ 16 ≤ (full.links.get mapping0.slot).queue.length := by decide

/-- The first byte of window 0, and the last byte of window 1. -/
theorem witness_AcceptedAccessQueuesEntry :
    (claiming active 2 ∧ inAperture active 0x41000000 0x01000000 ∧ (0x41000000 : Word).toNat % bytes .four = 0 ∧
      coveredBy active (0x01000000 / 4096) 0 ∧ active.windows.get 0 = .opened mapping0 0 ∧
      ¬(mapping0.rights = .read ∧ Op.write = .write ∨ mapping0.rights = .write ∧ Op.write = .read) ∧
      (active.links.get mapping0.slot).queue.length < 16) ∧
    inAperture active 0x41103FFF 0x01103FFF ∧ (0x41103FFF : Word).toNat % bytes .one = 0 ∧
      coveredBy active (0x01103FFF / 4096) 1 ∧ active.windows.get 1 = .opened mapping1 0 ∧
      ¬(mapping1.rights = .read ∧ Op.read = .write ∨ mapping1.rights = .write ∧ Op.read = .read) := by decide

theorem witness_ReusedTagDiscardsRequest :
    (requestOf traffic (.apertureAccess 2 .read 0x41000040 .four 0) = some (2, 0x41000040) ∧
      traffic.partReset = false ∧ traffic.hostReset = false ∧ traffic.hostTable.get 2 = true ∧
      inAperture traffic 0x41000040 0x01000040) ∧
    requestOf traffic (.ack 4 3) = some (4, 0xF000004C) ∧ traffic.hostTable.get 4 = true ∧
      inControlBlock traffic 0xF000004C 0x4C := by decide

theorem witness_UnclaimedRequestChangesNothing :
    requestOf start (.apertureAccess 0 .read 0x80000000 .four 0) = some (0, 0x80000000) ∧ start.partReset = false ∧
      (∀ offset, ¬inAperture start 0x80000000 offset ∧ ¬inControlBlock start 0x80000000 offset) ∧
      (∀ offset, ¬inAperture start 0x3FFFFFFF offset ∧ ¬inControlBlock start 0x3FFFFFFF offset) ∧
      (∀ offset, ¬inAperture start 0xF0000100 offset ∧ ¬inControlBlock start 0xF0000100 offset) ∧
      { start with hostReset := true }.hostReset = true :=
  ⟨by decide, by decide, unclaimed (by decide) (by decide), unclaimed (by decide) (by decide),
    unclaimed (by decide) (by decide), by decide⟩

theorem witness_DeniedBlockAccessAnswersOnly :
    claiming start 2 ∧ (inControlBlock start 0xF0000000 0x00 ∧ Size.two ≠ .four) ∧
      (inControlBlock start 0xF0000020 0x20 ∧ 0x20 ∉ readable) ∧
      (inControlBlock start 0xF00000FF 0xFF ∧ 0xFF ∉ readable ∧ 0xFF ∉ writable) ∧
      inControlBlock start 0xF0000024 0x24 ∧ 0x24 ∉ writable := by decide

theorem witness_OperandWordsHoldWrites :
    claiming start 2 ∧ inControlBlock start 0xF0000010 (0x10 + 4 * (0 : Fin 4).val) ∧
      inControlBlock start 0xF000001C (0x10 + 4 * (3 : Fin 4).val) := by decide

theorem witness_StatusReadClearsOverrun :
    claiming start 2 ∧ inControlBlock start 0xF0000024 0x24 ∧
      inControlBlock start 0xF0000030 (0x30 + 4 * (0 : Fin 4).val) ∧
      inControlBlock start 0xF000003C (0x30 + 4 * (3 : Fin 4).val) := by decide

theorem witness_SummaryWordsShowRecords :
    (claiming routed 2 ∧ inControlBlock routed 0xF0000000 0x00) ∧
      (inControlBlock routed 0xF0000050 (0x50 + 4 * (0 : LineIx).val) ∧
        inControlBlock routed 0xF000005C (0x50 + 4 * (3 : LineIx).val)) ∧
      (inControlBlock routed 0xF0000060 0x60 ∧ maximum (routed.lines.get 0) 3 ∧ routed.lines.get 1 = 0) ∧
      inControlBlock routed 0xF0000070 0x70 ∧ inControlBlock routed 0xF0000074 0x74 ∧ routed.config.budget ≤ 4000 := by
  decide

theorem witness_CodeWriteIssuesCommand :
    claiming start 2 ∧ start.engine.state ≠ .executing ∧
      claiming (after .nop (issued 0x00 noWords start)) 2 ∧
      (after .nop (issued 0x00 noWords start)).engine.state ≠ .executing := by decide

theorem witness_CodeWriteOverrun :
    claiming (issued 0x03 noWords start) 2 ∧ (issued 0x03 noWords start).engine.state = .executing := by decide

theorem witness_AckTakesHighestSource :
    (claiming routed 2 ∧ selected routed 0 16) ∧
    ∀ i, ¬eligible routed 1 i := by decide

theorem witness_EosEndsInnermostService :
    claiming routed 2 ∧ maximum (routed.lines.get 0) 3 ∧ maximum ((routed.putLine 0 0x81).lines.get 0) 7 ∧
      maximum ((routed.putLine 0 0x01).lines.get 0) 0 ∧ routed.lines.get 1 = 0 := by decide

theorem witness_CausesStayUntilTaken :
    (Instr.ack 2 0).wellFormed = true ∧ exec (.ack 2 0) routed = .next (after (.ack 2 0) routed) ∧
      (routed.sources.get 17).causes.getLsbD 0 = true ∧ (routed.sources.get 16).causes.getLsbD 0 = true ∧
      readsAck routed 2 0 (.ack 2 0) ∧ claiming routed 2 ∧ selected routed 0 16 :=
  ⟨by decide, exec_after _ _, by decide, by decide, ⟨rfl, rfl⟩, by decide, by decide⟩

/-! #### Commands -/

/-- The third clause: a host-defined window of 0 pages; the second: an index of 64. -/
theorem witness_CommonChecksRefuse :
    (let s := issued 0x07 noWords start;
      s.partReset = false ∧ s.engine.state = .executing ∧ s.engine.takenCode.toNat ∉ definedCodes) ∧
    (let s := issued 0x02 (words 64 0 0 0) start;
      executing (commandNumber .winOpen) s ∧ operandsPass .winOpen s.engine.takenOperands = false) ∧
    let s := issued 0x01 (words (BitVec.ofNat 32 (stageWord none 3 none .read .mem)) 0 0 0) identified
    executing (commandNumber .winStage) s ∧ operandsPass .winStage s.engine.takenOperands = true ∧
      (after .winStage s).engine.state = .finished .badOperand := by decide

theorem witness_RefusedCommandChangesNothing :
    executing (commandNumber .winOpen) (issued 0x02 noWords identified) ∧
      executing (commandNumber .slotAdmit) (issued 0x12 (words 3 0 0 0) identified) := by decide

theorem witness_NopCompletes : executing 0x00 (issued 0x00 (words 1 2 3 4) start) := by decide

/-- WIN_STAGE with a request of slot 3, in execution. -/
def staging (s : State) (named : Option WinIx) (q : Fin 6) (asked : Rights) (base : Nat) : State :=
  issued 0x01
    (words (BitVec.ofNat 32 (stageWord named 3 (some q) asked .mem)) (BitVec.ofNat 32 base) 0xFFFFFFFF 0xFFFFFFFF) s

theorem witness_WinStageGrantsRequest_refusals :
    RangesHeld (staging start none 0 .read 4096) ∧ RangesHeld (staging identified none 0 .read 4096) ∧
      (executing 0x01 (staging start none 0 .read 4096) ∧
        operand (staging start none 0 .read 4096) 0 (stageWord none 3 (some 0) .read .mem) ∧
        operand (staging start none 0 .read 4096) 1 4096 ∧
        ((staging start none 0 .read 4096).slots.get 3).profile = none) ∧
      profile3.requests.length ≤ (2 : Fin 6).val ∧
      (∃ r, profile3.requests[(1 : Fin 6).val]? = some r ∧ r.writable = false ∧ 262144 < 262141 + r.pages) ∧
      (∃ r, profile3.requests[(0 : Fin 6).val]? = some r ∧ 4097 % 2 ^ r.alignment ≠ 0) ∧
      requestHeld identified 3 0 :=
  ⟨(State.tablesCheck_sound (by decide)).1, (State.tablesCheck_sound (by decide)).1, by decide, by decide,
    ⟨_, rfl, by decide, by decide⟩, ⟨_, rfl, by decide⟩, ⟨0, by decide⟩⟩

/-- Request 0 at the last aligned base of the aperture, on a table whose window 63 alone is OPEN. -/
theorem witness_WinStageGrantsRequest_grants :
    let s := staging hostDefined none 0 .readWrite 261888
    RangesHeld s ∧ executing 0x01 s ∧ operand s 0 (stageWord none 3 (some 0) .readWrite .mem) ∧
      operand s 1 261888 ∧ 261888 < 262144 ∧ (s.slots.get 3).profile = some profile3 ∧
      (∃ r, profile3.requests[(0 : Fin 6).val]? = some r ∧ ¬(r.writable = false ∧ Rights.readWrite = .write) ∧
        261888 + r.pages ≤ 262144 ∧ 261888 % 2 ^ r.alignment = 0) ∧
      (∀ u, (s.windows.get u).grants 3 0 = false) ∧ stagedAt s none 0 ∧
      ∀ u, (s.windows.get u).meets 261888 256 = false :=
  ⟨(State.tablesCheck_sound (by decide)).1, by decide, by decide, by decide, by decide, by decide,
    ⟨_, rfl, by decide, by decide, by decide⟩, by decide, by decide, by decide⟩

/-- No index to use: window 63 named and OPEN, or no window FREE; and pages held by another window. -/
theorem witness_WinStage_noIndex_overlap :
    (∀ w, ¬stagedAt hostDefined (some 63) w) ∧ (∀ w, ¬stagedAt everyWindow none w) ∧
      RangesHeld everyWindow ∧ pagesHeld hostDefined 4608 256 :=
  ⟨by decide, by decide, (State.tablesCheck_sound (by decide)).1, ⟨63, 4608, by decide⟩⟩

/-- WIN_STAGE without a request, in execution. -/
def defining (s : State) (named : Option WinIx) (base pages moduleBase : Nat) : State :=
  issued 0x01
    (words (BitVec.ofNat 32 (stageWord named 3 none .write .reg)) (BitVec.ofNat 32 base) (BitVec.ofNat 32 pages)
      (BitVec.ofNat 32 moduleBase)) s

/-- The last page of the aperture on the last page of the module, and the greatest page count. -/
theorem witness_WinStageHostDefined :
    (let s := defining hostDefined (some 0) 262143 1 1048575;
      RangesHeld s ∧ executing 0x01 s ∧ operand s 0 (stageWord (some 0) 3 none .write .reg) ∧ operand s 1 262143 ∧
        operand s 2 1 ∧ operand s 3 1048575 ∧ (s.slots.get 3).profile ≠ none ∧ stagedAt s (some 0) 0 ∧
        ∀ u, (s.windows.get u).meets 262143 1 = false) ∧
    (262143 < 262144 ∧ 65536 < 131072 ∧ 1048575 < 1048576 ∧ 1 ≤ 65536 ∧ 65536 ≤ 65536 ∧ 262144 < 262143 + 2 ∧
      1048576 < 1048575 + 2 ∧ 65536 < 65537) ∧ ((defining start none 0 1 0).slots.get 3).profile = none :=
  ⟨⟨(State.tablesCheck_sound (by decide)).1, by decide⟩, by decide, by decide⟩

theorem witness_WinOpenOpensStaged :
    (executing 0x02 (issued 0x02 (words 63 0 0 0) identified) ∧ operand (issued 0x02 (words 63 0 0 0) identified) 0 63) ∧
      (∀ m, identified.windows.get 63 ≠ .staged m) ∧
      (identified.windows.get 0 = .staged mapping0 ∧ (identified.slots.get mapping0.slot).state ≠ .active) ∧
      admitted.windows.get 0 = .staged mapping0 ∧ (admitted.slots.get mapping0.slot).state = .active :=
  ⟨by decide, not_staged (by decide), by decide, by decide⟩

theorem witness_WinCloseOpensTicket :
    (executing 0x03 (issued 0x03 noWords active) ∧ operand (issued 0x03 noWords active) 0 (0 : WinIx).val) ∧
      ticketOpen lastReference (.close 0) ∧ ¬ticketOpen identified (.close 0) ∧
      (∀ m refs, identified.windows.get 0 ≠ .opened m refs) ∧
      (noTickets.windows.get 0 = .opened mapping0 0 ∧ noTicketFree noTickets ∧ ¬ticketOpen noTickets (.close 0)) ∧
      (traffic.windows.get 0 = .opened mapping0 3 ∧ lowestFree traffic 0 ∧ ¬ticketOpen traffic (.close 0)) ∧
      active.windows.get 0 = .opened mapping0 0 ∧ lowestFree active 0 :=
  ⟨by decide, by decide, by decide, not_opened (by decide), by decide, by decide, by decide, by decide⟩

theorem witness_WinReleaseByState :
    (executing 0x04 (issued 0x04 noWords active) ∧ operand (issued 0x04 noWords active) 0 (0 : WinIx).val) ∧
      active.windows.get 63 = .free ∧ (∃ m refs, active.windows.get 0 = .opened m refs) ∧
      identified.windows.get 0 = .staged mapping0 ∧
      lastReference.windows.get 0 = .closing mapping0 1 .toFree (some 16) :=
  ⟨by decide, by decide, ⟨mapping0, 0, by decide⟩, by decide, by decide⟩

theorem witness_WinReadReturnsRecord :
    (let s := issued 0x05 noWords lastReference;
      executing 0x05 s ∧ operand s 0 (0 : WinIx).val ∧ (s.windows.get 0).mapping = some mapping0 ∧
        mapping0.inRange = true ∧ (s.windows.get 0).refs ≤ 24 ∧ (s.windows.get 0).closeTicket = some 16) ∧
    (identified.windows.get 63 = .free ∧ identified.windows.get 1 = .staged mapping1) ∧
      active.windows.get 0 = .opened mapping0 0 ∧ mapping1.inRange = true := by decide

theorem witness_WinLookupFindsCover :
    (let s := issued 0x06 (words 4351 0 0 0) identified;
      executing 0x06 s ∧ operand s 0 4351 ∧ coveredBy s 4351 0) ∧
    let s := issued 0x06 (words 262143 0 0 0) identified
    executing 0x06 s ∧ operand s 0 262143 ∧ ∀ w, (s.windows.get w).covers 262143 = false := by decide

theorem witness_SlotReadReturnsRecord :
    (let s := issued 0x10 (words 3 0 0 0) ejecting;
      executing 0x10 s ∧ operand s 0 (3 : SlotIx).val ∧ (s.slots.get 3).profile = some profile3 ∧
        profile3.requests.length ≤ 6 ∧ (s.slots.get 3).usableTags.getD 0 ≤ 8 ∧
        ∀ k, (s.tickets.get k).openFor (TicketOp.onSlot 3) = true ↔ some (0 : Fin 8) = some k) ∧
    let s := issued 0x10 (words 7 0 0 0) ejecting
    (s.slots.get 7).profile = none ∧
      ∀ k, (s.tickets.get k).openFor (TicketOp.onSlot 7) = true ↔ (none : Option (Fin 8)) = some k := by decide

theorem witness_ProfileReadReturnsItem :
    (let s := issued 0x11 (words 0x202 0 0 0) identified;
      executing 0x11 s ∧ operand s 0 ((2 : SlotIx).val + 256 * (2 : Fin 7).val) ∧ (s.slots.get 2).profile = none) ∧
    (let s := issued 0x11 (words 0x303 0 0 0) identified;
      operand s 0 ((3 : SlotIx).val + 256 * (3 : Fin 7).val) ∧ (s.slots.get 3).profile = some profile3 ∧
        profile3.inRange = true ∧ profile3.requests.length < (3 : Fin 7).val) ∧
    operand (issued 0x11 (words 3 0 0 0) identified) 0 ((3 : SlotIx).val + 256 * (0 : Fin 7).val) ∧
    (∃ r, (2 : Fin 7).val = (1 : Fin 6).val + 1 ∧ profile3.requests[(1 : Fin 6).val]? = some r) ∧
      ∀ w, (identified.windows.get w).grants 3 1 = true ↔ some (1 : WinIx) = some w :=
  ⟨by decide, by decide, by decide, ⟨_, by decide, rfl⟩, by decide⟩

theorem witness_SlotAdmitPowersModule :
    (executing 0x12 (issued 0x12 (words 3 0 0 0) identified) ∧
      operand (issued 0x12 (words 3 0 0 0) identified) 0 (3 : SlotIx).val) ∧
      slotBusy (powering (.waiting 100000)) 3 ∧ (¬slotBusy active 3 ∧ (active.slots.get 3).state ≠ .identified) ∧
      (¬slotBusy identified 3 ∧ (identified.slots.get 3).state = .identified ∧
        (identified.slots.get 3).profile = some profile3 ∧ 11 < identified.committed + profile3.powerUnits.toNat ∧
        identified.committed + profile3.powerUnits.toNat ≤ identified.config.budget ∧ lowestFree identified 0) ∧
      (¬slotBusy { noTickets with slots := identified.slots } 3 ∧ noTicketFree noTickets) := by decide

theorem witness_SlotEjectClosesWindows :
    (executing 0x13 (issued 0x13 (words 3 0 0 0) active) ∧
      operand (issued 0x13 (words 3 0 0 0) active) 0 (3 : SlotIx).val) ∧
      slotBusy ejecting 3 ∧ (¬slotBusy identified 3 ∧ (identified.slots.get 3).state ≠ .active) ∧
      (¬slotBusy noTickets 3 ∧ (noTickets.slots.get 3).state = .active ∧ noTicketFree noTickets) ∧
      ¬slotBusy traffic 3 ∧ (traffic.slots.get 3).state = .active ∧ lowestFree traffic 0 := by decide

theorem witness_SlotRecoverQueuesSlot :
    ((executing 0x14 (issued 0x14 (words 3 0 0 0) faulted) ∧
      operand (issued 0x14 (words 3 0 0 0) faulted) 0 (3 : SlotIx).val) ∧
      slotBusy ejecting 3 ∧ (¬slotBusy active 3 ∧ (active.slots.get 3).state ≠ .identified) ∧
      (¬slotBusy identified 3 ∧ (identified.slots.get 3).state = .identified ∧ lowestFree identified 0 ∧
        identified.ident = .idle ∧ identified.identQueue = []) ∧
      noTicketFree noTickets ∧ (identifying (.reading (readOf 1 .busClear [] none))).ident ≠ .idle) ∧
    (∀ cause, (active.slots.get 3).state ≠ .faulted cause) ∧
      ∃ cause, (faulted.slots.get 3).state = .faulted cause :=
  ⟨by decide, fun cause => by cases cause <;> decide, ⟨.linkLost, by decide⟩⟩

theorem witness_SlotClearPostedClears :
    let s := issued 0x15 (words 7 0 0 0) active
    executing 0x15 s ∧ operand s 0 (7 : SlotIx).val := by decide

theorem witness_SrcRouteSetsRouting :
    (let s := issued 0x20 (words 18 0 0 0) start;
      executing 0x20 s ∧ operandsPass .srcRoute s.engine.takenOperands = false) ∧
    operand (issued 0x20 (words 0x00073111 0 0 0) start) 0
      ((17 : Fin 18).val + 256 * bit true + 4096 * (3 : LineIx).val + 65536 * (7 : Fin 8).val) := by decide

theorem witness_SrcReadReturnsRecord :
    (let s := issued 0x21 (words 18 0 0 0) start;
      executing 0x21 s ∧ operandsPass .srcRead s.engine.takenOperands = false) ∧
    operand (issued 0x21 (words 17 0 0 0) start) 0 (17 : Fin 18).val := by decide

theorem witness_TicketReadReturnsRecord :
    (let s := issued 0x30 (words 16 0 0 0) lastReference;
      executing 0x30 s ∧ operand s 0 ((2 : Fin 32).val * 8 + (0 : Fin 8).val) ∧ (s.tickets.get 0).sequence = 2 ∧
        (s.tickets.get 0).body = .opened (.close 0)) ∧
    (operand (issued 0x30 (words 255 0 0 0) lastReference) 0 ((31 : Fin 32).val * 8 + (7 : Fin 8).val) ∧
      (lastReference.tickets.get 7).body = .free ∧ (lastReference.tickets.get 7).sequence ≠ 31) ∧
    (noTickets.tickets.get 0).sequence = 1 ∧
      (noTickets.tickets.get 0).body = .finished (.recovery 0) .success none := by decide

theorem witness_TicketCollectFreesRecord :
    (let s := issued 0x31 (words 8 0 0 0) noTickets;
      executing 0x31 s ∧ operand s 0 ((1 : Fin 32).val * 8 + (0 : Fin 8).val) ∧ (s.tickets.get 0).sequence = 1 ∧
        (s.tickets.get 0).body = .finished (.recovery 0) .success none) ∧
    (lastReference.tickets.get 0).body = .opened (.close 0) ∧ (lastReference.tickets.get 7).body = .free := by decide

/-- The greatest budget, and a budget below what slot 3 has committed. -/
theorem witness_PartConfigFieldsWrittenAndRead :
    (let s := issued 0x40 (words 4 0 0 0) start;
      executing 0x40 s ∧ operandsPass .partConfig s.engine.takenOperands = false) ∧
    (let s := issued 0x40 (words 0x1633 4000 0 0) active;
      operand s 0
        (settleNumber .ms200 + 16 * powerNumber .ms400 + 256 * completionNumber .ms16 + 4096 * clockNumber .khz400) ∧
        operand s 1 4000 ∧ s.committed ≤ 4000) ∧
    (operand (issued 0x40 (words 0x0312 11 0 0) active) 1 11 ∧ 11 < active.committed) ∧
    executing 0x41 (issued 0x41 noWords start) ∧ start.config.budget ≤ 4000 := by decide

/-! #### Slot events -/

theorem witness_PresenceSettlesAndFilters :
    settling.partReset = false ∧ ((settling.slots.get 3).state = .settling ∧ (settling.slots.get 3).settleTimer ≠ none) ∧
      (settling.ident = .idle ∧ settling.identQueue = []) ∧
      (identifying (.reading (readOf 1 .busClear [] none))).ident ≠ .idle := by decide

/-- Qualifying, and the two kinds of loss that is none: before power good is seen, and in IDENTIFIED. -/
theorem witness_PowerGoodQualifies :
    (let s := powering (.qualifying 1000);
      s.partReset = false ∧ (s.slots.get 3).state = .powering ∧
        (s.slots.get 3).powerTimer = some (.qualifying 1000)) ∧
    (((powering (.waiting 100000)).slots.get 3).state = .powering ∧
      ((powering (.waiting 100000)).slots.get 3).powerTimer = some (.waiting 100000)) ∧
    (identified.slots.get 3).state = .identified := by decide

theorem witness_SlotFaultTearsDown_power :
    (Safe (powering (.waiting 100000)) ∧ (powering (.waiting 100000)).partReset = false ∧
      ((powering (.waiting 100000)).slots.get 3).state = .powering ∧
      ((powering (.waiting 100000)).slots.get 3).powerTimer = some (.waiting 100000)) ∧
    Safe (powering (.qualifying 1000)) ∧ ((powering (.qualifying 1000)).slots.get 3).state = .powering ∧
      ((powering (.qualifying 1000)).slots.get 3).powerTimer = some (.qualifying 1000) :=
  ⟨⟨safe_powering, by decide⟩, safe_qualifying, by decide⟩

/-- The counts 0 and 9 are the nearest on each side of 1 to 8. -/
theorem witness_SlotFaultTearsDown_link :
    (Safe linking ∧ (linking.links.get 3).state = .training ∧ (0 : BitVec 4).toNat = 0 ∧ 8 < (9 : BitVec 4).toNat) ∧
    (Safe traffic ∧ (traffic.slots.get 3).state = .active ∧ (traffic.links.get 3).state = .up ∧
      (traffic.links.get 3).tags.get 3 = .free ∧
      (traffic.links.get 3).tags.get 0 = .inFlight (request .read 0x40 .four (some 2)) ∧
      ¬agreeing (request .read 0x40 .four (some 2)) .ok [0x11] ∧
      ¬agreeing (request .read 0x40 .four (some 2)) .undefined []) ∧
    (Safe quiescing ∧ (quiescing.links.get 3).state = .quiescing ∧ (quiescing.links.get 3).tags.get 0 = .free) ∧
    Safe ejecting ∧ (ejecting.slots.get 3).state = .ejecting :=
  ⟨⟨safe_linking, by decide⟩, ⟨safe_traffic, by decide⟩, ⟨safe_quiescing, by decide⟩, safe_ejecting, by decide⟩

theorem safe_reading_body : Safe (identifying (.reading (readOf 1 .body [1, 2, 33, 0] (some 33)))) :=
  State.safeCheck_sound (by decide)
theorem safe_retryWait : Safe (identifying (.retryWait (readOf 2 .header [] none) 5000)) :=
  State.safeCheck_sound (by decide)

/-- Removals from EJECTING, IDENTIFYING (the read of 4.9, and a retry wait) and QUEUED. -/
theorem witness_RemovalEmptiesSlot :
    (Safe ejecting ∧ ejecting.partReset = false ∧ (ejecting.slots.get 3).removalFilter ≠ none) ∧
    (Safe (identifying (.reading (readOf 1 .body [1, 2, 33, 0] (some 33)))) ∧
      ((identifying (.reading (readOf 1 .body [1, 2, 33, 0] (some 33)))).slots.get 4).removalFilter ≠ none) ∧
    Safe (identifying (.retryWait (readOf 2 .header [] none) 5000)) ∧
      ((identifying (.retryWait (readOf 2 .header [] none) 5000)).slots.get 1).removalFilter ≠ none :=
  ⟨⟨safe_ejecting, by decide⟩, ⟨safe_reading_body, by decide⟩, safe_retryWait, by decide⟩

theorem witness_ReadyAdmitsSlot :
    Safe linking ∧ linking.partReset = false ∧ (linking.links.get 3).state = .training ∧ 1 ≤ (1 : BitVec 4).toNat ∧
      (8 : BitVec 4).toNat ≤ 8 :=
  ⟨safe_linking, by decide⟩

/-! #### The slot link -/

/-- Sending, waiting, and one step that leaves the link of slot 3 in each of its states. -/
theorem witness_SendTakesHeadEntry :
    ((queued.partReset = false ∧ (queued.links.get 3).state = .up ∧
      (queued.links.get 3).queue = [postedEntry, readEntry] ∧ (queued.slots.get 3).usableTags = some 4 ∧
      ((List.finRange 8).countP fun j => (queued.links.get 3).tags.get j != .free) < 4 ∧
      (queued.links.get 3).tags.get 0 = .free) ∧
    ((quiescing.links.get 3).state ≠ .up ∧ (active.links.get 3).queue = []) ∧
    (full.slots.get 3).usableTags = some 4 ∧
      1 ≤ (List.finRange 8).countP fun j => (full.links.get 3).tags.get j != .free) ∧
    (exec .partReset active = .next (after .partReset active) ∧
      exec (.qualificationExpiry 3) (powering (.qualifying 1000)) =
        .next (after (.qualificationExpiry 3) (powering (.qualifying 1000))) ∧
      exec (.sendRequest 3) queued = .next (after (.sendRequest 3) queued) ∧
      exec (.completion 3 0 .ok [1, 2, 3, 4]) ejecting = .next (after (.completion 3 0 .ok [1, 2, 3, 4]) ejecting)) ∧
    ((after .partReset active).links.get 3).state = .down ∧
      ((after (.qualificationExpiry 3) (powering (.qualifying 1000))).links.get 3).state = .training ∧
      ((after (.sendRequest 3) queued).links.get 3).state = .up ∧
      ((after (.completion 3 0 .ok [1, 2, 3, 4]) ejecting).links.get 3).state = .quiescing :=
  ⟨by decide, ⟨exec_after _ _, exec_after _ _, exec_after _ _, exec_after _ _⟩, by decide⟩

/-- A READ, a posted WRITE in error, the last reference of a CLOSING window, the last work of an EJECTING slot, and a
STALE tag. -/
theorem witness_CompletionFinishesRequest :
    (Safe traffic ∧ traffic.partReset = false ∧
      (traffic.links.get 3).tags.get 0 = .inFlight (request .read 0x40 .four (some 2)) ∧
      agreeing (request .read 0x40 .four (some 2)) .ok [0x11, 0x22, 0x33, 0x44] ∧
      (traffic.links.get 3).tags.get 1 = .inFlight (request .write 0x1000 .four none) ∧
      agreeing (request .write 0x1000 .four none) .error [0x11]) ∧
    (Safe lastReference ∧
      (lastReference.links.get 3).tags.get 2 = .inFlight (request .read 0x2002 .two (some 4)) ∧
      agreeing (request .read 0x2002 .two (some 4)) .unsupported []) ∧
    (Safe ejecting ∧ (ejecting.links.get 3).tags.get 0 = .inFlight (request .read 0x40 .four (some 2))) ∧
    Safe full ∧ (full.links.get 3).tags.get 0 = .stale (request .read 0x40 .four (some 2)) :=
  ⟨⟨safe_traffic, by decide⟩, ⟨safe_lastReference, by decide⟩, ⟨safe_ejecting, by decide⟩, safe_full, by decide⟩

theorem witness_TimeoutQuarantinesTag :
    (Safe lastReference ∧ lastReference.partReset = false ∧
      (lastReference.links.get 3).tags.get 2 = .inFlight (request .read 0x2002 .two (some 4))) ∧
    Safe full ∧ full.partReset = false ∧
      (full.links.get 3).tags.get 0 = .stale (request .read 0x40 .four (some 2)) :=
  ⟨⟨safe_lastReference, by decide⟩, safe_full, by decide⟩

theorem witness_ModulePacketsRaiseCauses :
    (active.partReset = false ∧ (active.links.get 3).state = .up ∧ (active.slots.get 3).state = .active ∧
      (active.slots.get 3).profile = some profile3) ∧
    ((quiescing.links.get 3).state = .quiescing ∧ (quiescing.slots.get 3).profile = some profile3) ∧
    (ejecting.links.get 3).state = .up ∧ (ejecting.slots.get 3).state ≠ .active := by decide

theorem witness_DiscardedPacketsChangeNothing :
    (active.partReset = false ∧ (active.links.get 3).state ≠ .training ∧ (active.links.get 3).state ≠ .quiescing) ∧
      (identified.links.get 3).state = .down ∧ (linking.links.get 3).state = .training := by decide

theorem witness_QuiesceEndsEjection :
    (Safe quiescing ∧ quiescing.partReset = false ∧ (quiescing.links.get 3).state = .quiescing) ∧
      (quiescing.windows.get 0).mapping = some mapping0 ∧ mapping0.slot = 3 :=
  ⟨⟨safe_quiescing, by decide⟩, by decide⟩

theorem witness_LinkLossForcesEjection :
    (Safe ejecting ∧ ejecting.partReset = false ∧ (ejecting.slots.get 3).state = .ejecting) ∧
      Safe quiescing ∧ (quiescing.slots.get 3).state = .ejecting :=
  ⟨⟨safe_ejecting, by decide⟩, safe_quiescing, by decide⟩

/-! #### Identification -/

theorem safe_reading_header : Safe (identifying (.reading (readOf 3 .header [] none))) :=
  State.safeCheck_sound (by decide)

theorem safe_reading_header_part : Safe (identifying (.reading (readOf 2 .header [1, 6] none))) :=
  State.safeCheck_sound (by decide)

/-- The bus clear; a run that leaves 3 bytes; runs that end the header with the largest image, and one that fails. -/
theorem witness_HeaderLeadsToBody :
    (Safe (identifying (.reading (readOf 1 .busClear [] none))) ∧ (readOf 1 .busClear [] none).phase = .busClear) ∧
    (let r := readOf 2 .header [1, 6] none;
      Safe (identifying (.reading r)) ∧ (identifying (.reading r)).partReset = false ∧
        (identifying (.reading r)).ident = .reading r ∧ r.phase = .header ∧
        (readOn 4 r [.received 65]).bytes.length < 4 ∧ (readOn 4 r (images [65, 0, 7])).bytes = [1, 6, 65, 0]) ∧
    ((6 : Byte).toNat ≤ 6 ∧ (65 : Byte).toNat + 256 * (0 : Byte).toNat = 17 + 8 * (6 : Byte).toNat) ∧
    ¬((1 : Byte) = 1 ∧ (7 : Byte).toNat ≤ 6 ∧ (73 : Byte).toNat + 256 * (0 : Byte).toNat = 17 + 8 * (7 : Byte).toNat) :=
  ⟨⟨safe_busClear, by decide⟩, ⟨safe_reading_header_part, by decide⟩, by decide, by decide⟩

theorem safe_reading_body_part :
    Safe (identifying (.reading (readOf 1 .body ([1, 2, 33, 0] ++ body3.take 28) (some 33)))) :=
  State.safeCheck_sound (by decide)

/-- A run that leaves one byte, a run that goes past the image, and the last byte alone, right and wrong. -/
theorem witness_BodyEndsRead :
    (let r := readOf 1 .body [1, 2, 33, 0] (some 33);
      Safe (identifying (.reading r)) ∧ (identifying (.reading r)).partReset = false ∧
        (identifying (.reading r)).ident = .reading r ∧ r.phase = .body ∧ byteAt r.bytes 1 = 2 ∧
        (readOn (17 + 8 * 2) r [.acknowledged]).bytes.length < 17 + 8 * 2 ∧
        (readOn (17 + 8 * 2) r (images (body3.take 28))).bytes.length < 17 + 8 * 2 ∧
        (readOn (17 + 8 * 2) r (images (body3 ++ [0xEE]))).bytes.length = 17 + 8 * 2) ∧
    Safe (identifying (.reading (readOf 1 .body ([1, 2, 33, 0] ++ body3.take 28) (some 33)))) ∧
    imageAccepted ([1, 2, 33, 0] ++ body3.take 28 ++ [0x99]) 2 ∧
    ¬imageAccepted ([1, 2, 33, 0] ++ body3.take 28 ++ [0x9A]) 2 :=
  ⟨⟨safe_reading_body, by decide⟩, safe_reading_body_part, by unfold imageAccepted; decide,
    by unfold imageAccepted; decide⟩

/-- From the header, and with the last byte of the image to come. -/
theorem witness_ImageGivesBackProfile :
    (let r := readOf 1 .body [1, 2, 33, 0] (some 33);
      Safe (identifying (.reading r)) ∧ (identifying (.reading r)).partReset = false ∧
        (identifying (.reading r)).ident = .reading r ∧ r.phase = .body ∧ profile3.inRange = true ∧
        0 < (imageBody profile3).length ∧ r.bytes = headerBytes profile3 ++ (imageBody profile3).take 0 ∧
        imageBytes (.acknowledged :: images (body3 ++ [0xEE])) = (imageBody profile3).drop 0 ++ [0xEE]) ∧
    let r := readOf 1 .body ([1, 2, 33, 0] ++ body3.take 28) (some 33)
    Safe (identifying (.reading r)) ∧ r.phase = .body ∧ 28 < (imageBody profile3).length ∧
      r.bytes = headerBytes profile3 ++ (imageBody profile3).take 28 ∧
      imageBytes [.received 0x99] = (imageBody profile3).drop 28 ++ [] :=
  ⟨⟨safe_reading_body, by decide⟩, safe_reading_body_part, by decide⟩

theorem safe_reading_third : Safe (identifying (.reading { readOf 3 .header [] none with sent := 2 })) :=
  State.safeCheck_sound (by decide)

/-- A bus clear in attempt 1, the third byte of the part's in attempt 3, a retry wait. -/
theorem witness_FailedAttemptRetries :
    (let r := readOf 1 .busClear [] none;
      Safe (identifying (.reading r)) ∧ (identifying (.reading r)).ident = .reading r ∧ r.attempt < 3 ∧
        r.phase = .busClear) ∧
    (let r := { readOf 3 .header [] none with sent := 2 };
      Safe (identifying (.reading r)) ∧ (identifying (.reading r)).ident = .reading r ∧ r.attempt = 3 ∧
        r.phase ≠ .busClear ∧ r.sent < 3) ∧
    Safe (identifying (.retryWait (readOf 2 .header [] none) 5000)) ∧
      (identifying (.retryWait (readOf 2 .header [] none) 5000)).ident = .retryWait (readOf 2 .header [] none) 5000 :=
  ⟨⟨safe_busClear, by decide⟩, ⟨safe_reading_third, by decide⟩, safe_retryWait, by decide⟩

theorem witness_AbandonedByteFreesController :
    (abandoning.partReset = false ∧ abandoning.ident = .abandoning (readOf 1 .body [1, 2, 33, 0] (some 33))) ∧
    Safe abandoning ∧ (Safe identified ∧ identified.ident = .idle) ∧
    (Safe (identifying (.reading (readOf 3 .header [] none))) ∧
      ((identifying (.reading (readOf 3 .header [] none))).slots.get 4).state = .identifying) ∧
    Safe (identifying (.retryWait (readOf 2 .header [] none) 5000)) ∧
      ((identifying (.retryWait (readOf 2 .header [] none) 5000)).slots.get 4).state = .identifying :=
  ⟨by decide, safe_abandoning, ⟨safe_identified, by decide⟩, ⟨safe_reading_header, by decide⟩, safe_retryWait,
    by decide⟩

theorem witness_HostPortResetDiscards : queued.partReset = false ∧ Safe queued ∧ Safe traffic :=
  ⟨by decide, safe_queued, safe_traffic⟩

end Sys2Proof.Tests
end

/-! PROOFS. The words and the completion of a command: what the commands of every family share. -/

namespace Sys2Proof.Machine

open Sys2Proof.Expected

/-! ### Bit fields of a word -/

/-- A field of a word, as a quotient and a remainder of the word's number. -/
theorem field_eq (w : Word) (lo len : Nat) : field w lo len = w.toNat / 2 ^ lo % 2 ^ len := by
  rw [field, BitVec.extractLsb'_toNat, Nat.shiftRight_eq_div_pow]

/-- A field is 0 exactly when its bits are. -/
theorem field_eq_zero_iff (w : Word) (lo len : Nat) :
    field w lo len = 0 ↔ ∀ i, i < len → w.getLsbD (lo + i) = false := by
  rw [field, ← BitVec.toNat_zero, ← BitVec.toNat_eq]
  constructor
  · intro h i hi
    have := congrArg (·.getLsbD i) h
    simpa [BitVec.getLsbD_extractLsb', hi] using this
  · intro h
    apply BitVec.eq_of_getLsbD_eq
    intro i hi
    simp [BitVec.getLsbD_extractLsb', h i hi]

/-- The word of a number read back from a word. -/
theorem toNat_ofNat_word {v : Nat} (h : v < 2 ^ 32) : (BitVec.ofNat 32 v).toNat = v := by
  rw [BitVec.toNat_ofNat, Nat.mod_eq_of_lt h]

/-- A placed value stands at its bit position. -/
theorem place_toNat {v lo len : Nat} (hv : v < 2 ^ len) (h : lo + len ≤ 32) :
    (place v lo len).toNat = 2 ^ lo * v := by
  have hlen : 2 ^ len ≤ 2 ^ 32 := Nat.pow_le_pow_right (by omega) (by omega)
  have hlt : 2 ^ lo * v < 2 ^ 32 := calc
    2 ^ lo * v < 2 ^ lo * 2 ^ len := Nat.mul_lt_mul_of_pos_left hv (Nat.two_pow_pos lo)
    _ = 2 ^ (lo + len) := (Nat.pow_add 2 lo len).symm
    _ ≤ 2 ^ 32 := Nat.pow_le_pow_right (by omega) h
  rw [place, BitVec.toNat_shiftLeft, BitVec.toNat_setWidth, BitVec.toNat_ofNat, Nat.mod_eq_of_lt hv,
    Nat.mod_eq_of_lt (hv.trans_le hlen), Nat.shiftLeft_eq, Nat.mul_comm, Nat.mod_eq_of_lt hlt]

/-! ### Words put together field by field, from bit 0 up -/

/-- The word holds the number `v`, in its low `n` bits. -/
def Packs (w : Word) (n v : Nat) : Prop := w.toNat = v ∧ v < 2 ^ n

theorem Packs.place_zero {v len : Nat} (hv : v < 2 ^ len) (h : len ≤ 32) : Packs (place v 0 len) len v :=
  ⟨by rw [place_toNat hv (by omega), Nat.pow_zero, Nat.one_mul], hv⟩

theorem Packs.mono {w : Word} {n k v : Nat} (hw : Packs w n v) (h : n ≤ k) : Packs w k v :=
  ⟨hw.1, hw.2.trans_le (Nat.pow_le_pow_right (by decide) h)⟩

/-- A further field, above the bits in use, adds its value at its position. -/
theorem Packs.or_place {w : Word} {n a v lo len : Nat} (hw : Packs w n a) (hn : n ≤ lo) (hv : v < 2 ^ len)
    (h : lo + len ≤ 32) : Packs (w ||| place v lo len) (lo + len) (a + 2 ^ lo * v) := by
  obtain ⟨rfl, hlt⟩ := hw
  have hlo : w.toNat < 2 ^ lo := hlt.trans_le (Nat.pow_le_pow_right (by omega) hn)
  constructor
  · rw [BitVec.toNat_or, place_toNat hv h, Nat.or_comm, ← Nat.two_pow_add_eq_or_of_lt hlo, Nat.add_comm]
  · calc
      w.toNat + 2 ^ lo * v < 2 ^ lo * (v + 1) := by rw [Nat.mul_add]; omega
      _ ≤ 2 ^ lo * 2 ^ len := Nat.mul_le_mul_left _ hv
      _ = 2 ^ (lo + len) := (Nat.pow_add 2 lo len).symm

/-- A further flag, above the bits in use. -/
theorem Packs.or_flag {w : Word} {n a k : Nat} (hw : Packs w n a) (b : Bool) (hn : n ≤ k) (h : k < 32) :
    Packs (w ||| flag b k) (k + 1) (a + 2 ^ k * b.toNat) :=
  hw.or_place hn (by cases b <;> decide) h

/-! ### The bits assigned to no operand (R132) -/

/-- The word whose bits are 1 in the `len` bits from bit `lo` up, and 0 elsewhere. -/
def onesAt (lo len : Nat) : Word := place (2 ^ len - 1) lo len

theorem getLsbD_onesAt (lo len i : Nat) : (onesAt lo len).getLsbD i = decide (i < 32 ∧ lo ≤ i ∧ i < lo + len) := by
  simp only [onesAt, place, BitVec.getLsbD_shiftLeft, BitVec.getLsbD_setWidth, BitVec.getLsbD_ofNat,
    Nat.testBit_two_pow_sub_one]
  grind

/-- A word has no bit in a field exactly when the field is 0. -/
theorem and_onesAt_eq_zero_iff (w : Word) (lo len : Nat) : w &&& onesAt lo len = 0 ↔ field w lo len = 0 := by
  rw [field_eq_zero_iff]
  constructor
  · intro h i hi
    have hbit : (w &&& onesAt lo len).getLsbD (lo + i) = false := by rw [h, BitVec.ofNat_eq_ofNat, BitVec.getLsbD_zero]
    by_cases hlt : lo + i < 32
    · rwa [BitVec.getLsbD_and, getLsbD_onesAt, decide_eq_true (by omega), Bool.and_true] at hbit
    · exact BitVec.getLsbD_of_ge w _ (by omega)
  · intro h
    apply BitVec.eq_of_getLsbD_eq
    intro i _
    by_cases hi : lo ≤ i ∧ i < lo + len
    · have := h (i - lo) (by omega)
      rw [Nat.add_sub_cancel' hi.1] at this
      simp [this]
    · simp [getLsbD_onesAt, hi]

/-- The bits outside a mask, given as runs, are 0 exactly when the fields of these runs are. -/
theorem within_iff_gaps {mask : Word} (gaps : List (Nat × Nat)) (w : Word)
    (h : ~~~mask = gaps.foldr (fun g acc => onesAt g.1 g.2 ||| acc) 0) :
    within w mask = true ↔ ∀ g ∈ gaps, field w g.1 g.2 = 0 := by
  rw [within, beq_iff_eq, h]
  clear h
  induction gaps with
  | nil => simp
  | cons g gaps ih =>
    rw [List.foldr_cons, List.forall_mem_cons, BitVec.and_or_distrib_left]
    exact BitVec.or_eq_zero_iff.trans (and_congr (and_onesAt_eq_zero_iff w g.1 g.2) ih)

/-- A mask of the low bits lets exactly the numbers below its bound through. -/
theorem within_low_iff {mask : Word} (n : Nat) (w : Word) (hn : n ≤ 32) (h : ~~~mask = onesAt n (32 - n)) :
    within w mask = true ↔ w.toNat < 2 ^ n := by
  rw [within_iff_gaps [(n, 32 - n)] w (by simpa using h), List.forall_mem_singleton, field_eq,
    Nat.mod_eq_of_lt, Nat.div_eq_zero_iff_lt (Nat.two_pow_pos n)]
  rw [Nat.div_lt_iff_lt_mul (Nat.two_pow_pos n), ← Nat.pow_add, Nat.sub_add_cancel hn]
  exact w.isLt

/-! ### Coded operands -/

@[simp] theorem indexOf_val {n : Nat} (i : Fin n) : indexOf n i.val = some i := by
  simp [indexOf]

@[simp] theorem stageWindowOf_elim (named : Option WinIx) : stageWindowOf (named.elim 127 Fin.val) = some named := by
  cases named with
  | none => rfl
  | some w =>
    have : w.val ≠ 0x7F := by omega
    simp [stageWindowOf, this]

@[simp] theorem stageRequestOf_elim (request : Option (Fin 6)) :
    stageRequestOf (request.elim 7 Fin.val) = some request := by
  cases request with
  | none => rfl
  | some q =>
    have : q.val ≠ 7 := by omega
    simp [stageRequestOf, this]

@[simp] theorem rightsOf_rightsNumber (r : Rights) : rightsOf (rightsNumber r) = some r := by
  cases r <;> rfl

@[simp] theorem kindOf_kindNumber (k : Kind) : kindOf (kindNumber k) = some k := by
  cases k <;> rfl

theorem rightsNumber_lt (r : Rights) : rightsNumber r < 4 := by
  cases r <;> decide

theorem kindNumber_lt (k : Kind) : kindNumber k < 2 := by
  cases k <;> decide

theorem windowNumber_lt (x : Window) : windowNumber x < 4 := by
  cases x <;> simp [windowNumber]

@[simp] theorem Rights.code_eq (r : Rights) : r.code = rightsNumber r := by
  cases r <;> rfl

@[simp] theorem Kind.code_eq (k : Kind) : k.code = kindNumber k := by
  cases k <;> rfl

@[simp] theorem Window.code_eq (x : Window) : x.code = windowNumber x := by
  cases x <;> rfl

/-- The operand that is the whole of word 0, an index of a window (R154). -/
theorem windowOperand_of_operand {s : State} {w : WinIx} (h : operand s 0 w.val) :
    windowOperand s.engine.takenOperands = some w := by
  have hw : (s.engine.takenOperands.get 0).toNat = w.val := by rw [h, toNat_ofNat_word (by omega)]
  have hin : within (s.engine.takenOperands.get 0) 0x3F = true := by
    rw [within_low_iff 6 _ (by decide) (by decide), hw]
    omega
  have hfield : field (s.engine.takenOperands.get 0) 0 6 = w.val := by
    rw [field_eq, hw]
    omega
  rw [windowOperand, if_pos hin, hfield, indexOf_val]

/-- The operand of WIN_LOOKUP, an aperture page (R154). -/
theorem pageOperand_of_operand {s : State} {page : Nat} (h : operand s 0 page) (hp : page < 262144) :
    pageOperand s.engine.takenOperands = some page := by
  have hw : (s.engine.takenOperands.get 0).toNat = page := by rw [h, toNat_ofNat_word (by omega)]
  have hin : within (s.engine.takenOperands.get 0) 0x3FFFF = true := by
    rw [within_low_iff 18 _ (by decide) (by decide), hw]
    exact hp
  have hfield : field (s.engine.takenOperands.get 0) 0 18 = page := by
    rw [field_eq, hw]
    omega
  rw [pageOperand, if_pos hin, hfield]

/-! ### Result words -/

@[simp] theorem words_get_zero (a b c d : Word) : (words a b c d).get 0 = a := rfl
@[simp] theorem words_get_one (a b c d : Word) : (words a b c d).get 1 = b := rfl
@[simp] theorem words_get_two (a b c d : Word) : (words a b c d).get 2 = c := rfl
@[simp] theorem words_get_three (a b c d : Word) : (words a b c d).get 3 = d := rfl

/-- A result of one word stands in word 0 and leaves the others 0 (R155). -/
theorem words_eq_oneWord {a : Word} {v : Nat} (h : a.toNat = v) : words a 0 0 0 = oneWord v := by
  have ha : a = BitVec.ofNat 32 v := by rw [← h, BitVec.ofNat_toNat, BitVec.setWidth_eq]
  rw [ha]
  rfl

/-- An index in result word 0. -/
theorem indexWords_eq_oneWord {v len : Nat} (hv : v < 2 ^ len) (h : len ≤ 32) : indexWords v len = oneWord v :=
  words_eq_oneWord (Packs.place_zero hv h).1

/-! ### The completion of a command (R129, R133) -/

theorem commandNumber_eq_code (c : Command) : commandNumber c = c.code := by
  cases c <;> rfl

/-- The command in execution completes as its meaning says, on the state with the outputs cleared. -/
theorem taken_runCommand {s : State} {c : Command} (body : Tbl 4 Word → State → Completion)
    (h : executing (commandNumber c) s) :
    taken (runCommand c body) s = .next ((body s.engine.takenOperands s.quiet).result s.quiet) := by
  obtain ⟨hreset, hstate, hcode⟩ := h
  rw [taken_of_running _ hreset, runCommand_of_executing (s := s.quiet) body hstate
    (hcode.trans (commandNumber_eq_code c))]
  rfl

/-- The command in execution, when its operands pass the common checks (R132). -/
theorem taken_checked {α : Type} {s : State} {c : Command} {operands : Tbl 4 Word → Option α} {x : α}
    (body : State → α → Completion) (h : executing (commandNumber c) s)
    (hx : operands s.engine.takenOperands = some x) :
    taken (runCommand c fun o s => checked (operands o) (body s)) s = .next ((body s.quiet x).result s.quiet) := by
  rw [taken_runCommand _ h, hx]
  rfl

/-- A refusal completes the command and changes nothing else (R133). -/
@[simp] theorem result_refuse_quiet (s : State) (code : ResultCode) :
    (Completion.refuse code).result s.quiet = completed code zeros s := rfl

/-- A command that changes no record completes with its results alone. -/
@[simp] theorem result_finish_quiet (s : State) (code : ResultCode) (results : Tbl 4 Word) :
    (Completion.finish code results s.quiet).result s.quiet = completed code results s := rfl

/-- A command that replaces one window completes with that window replaced and nothing else. -/
@[simp] theorem result_finish_putWindow (s : State) (code : ResultCode) (results : Tbl 4 Word) (w : WinIx)
    (x : Window) :
    (Completion.finish code results (s.quiet.putWindow w x)).result s.quiet =
      completed code results { s with windows := s.windows.put w x } := rfl

end Sys2Proof.Machine

/-! PROOFS. The window table (chapter 1): WIN_STAGE, WIN_RELEASE, WIN_READ and WIN_LOOKUP. -/

namespace Sys2Proof.Machine

open Sys2Proof.Expected

/-! ### The tests on the Window Table -/

/-- A window within its ranges holds a page (R1). -/
theorem RangesHeld.mapping_pages_pos {s : State} (hr : RangesHeld s) (w : WinIx) (m : Mapping)
    (h : (s.windows.get w).mapping = some m) : 0 < m.pages :=
  (of_decide_eq_true (hr.window w m h)).1

/-- A request of a held profile asks for a page (R87). -/
theorem RangesHeld.request_pages_pos {s : State} (hr : RangesHeld s) {n : SlotIx} {p : Profile} {q : Nat}
    {r : Request} (hp : (s.slots.get n).profile = some p) (hq : p.requests[q]? = some r) : 0 < r.pages := by
  have hin := hr.profile n p hp
  simp only [Profile.inRange, Bool.and_eq_true, List.all_eq_true] at hin
  exact (of_decide_eq_true (hin.2 r (List.mem_of_getElem? hq))).2.1

theorem RangesHeld.quiet {s : State} (hr : RangesHeld s) : RangesHeld s.quiet :=
  ⟨hr.window, hr.profile, hr.budget⟩

/-- The overlap test of WIN_STAGE says that a page of the range is held (R10). -/
theorem State.overlaps_eq_true_iff {s : State} {base pages : Nat} (hr : RangesHeld s) (hp : 0 < pages) :
    s.overlaps base pages = true ↔ pagesHeld s base pages :=
  State.overlaps_iff hp hr.mapping_pages_pos

/-- Some window grants the request exactly when the search finds one (R9). -/
theorem State.granting_isSome_iff {s : State} {n : SlotIx} {q : Fin 6} :
    (s.granting n q).isSome = true ↔ requestHeld s n q := by
  simp [granting, requestHeld]

/-! ### The index WIN_STAGE uses (R11) -/

theorem State.stageIndex_eq_ok {s : State} {named : Option WinIx} {w : WinIx} (h : stagedAt s named w) :
    s.stageIndex named = .ok w := by
  obtain ⟨hfree, rfl | ⟨rfl, hlow⟩⟩ := h
  · exact if_pos hfree
  · rw [stageIndex, State.freeWindow_eq_some.2 ⟨hfree, hlow⟩]

/-- No index can be used: the named window is not FREE, or none is. -/
theorem State.stageIndex_eq_error {s : State} {named : Option WinIx} (h : ∀ w, ¬stagedAt s named w) :
    s.stageIndex named = .error (if named = none then .noFreeWindow else .windowState) := by
  cases named with
  | none =>
    cases e : s.freeWindow with
    | none => simp [stageIndex, e]
    | some w =>
      obtain ⟨hfree, hlow⟩ := State.freeWindow_eq_some.1 e
      exact absurd ⟨hfree, .inr ⟨rfl, hlow⟩⟩ (h w)
  | some w =>
    have hbusy : s.windows.get w ≠ .free := fun hfree => h w ⟨hfree, .inl rfl⟩
    exact if_neg hbusy

/-! ### Steps 8 and 9 of WIN_STAGE (R5, R10, R11) -/

section

variable {s : State} {named : Option WinIx} {m : Mapping} {w : WinIx}

theorem stageAt_of_noIndex (h : ∀ w, ¬stagedAt s named w) :
    stageAt named m s = .refuse (if named = none then .noFreeWindow else .windowState) := by
  rw [stageAt, State.stageIndex_eq_error h]

theorem stageAt_of_index (h : stagedAt s named w) :
    stageAt named m s =
      if s.overlaps m.base m.pages then .refuse .overlap
      else .finish .ok (oneWord w.val) (s.putWindow w (.staged m)) := by
  rw [stageAt, State.stageIndex_eq_ok h, ← indexWords_eq_oneWord (len := 6) w.isLt (by decide)]

/-- How a WIN_STAGE ends that reaches step 8 with the mapping `m`. -/
theorem completes_stageAt {outcome : Host.Outcome State Fault Refusal}
    (h : outcome = .next ((stageAt named m s.quiet).result s.quiet)) (hr : RangesHeld s) (hp : 0 < m.pages) :
    ((∀ w, ¬stagedAt s named w) →
      outcome = .next (completed (if named = none then .noFreeWindow else .windowState) zeros s)) ∧
    ∀ w, stagedAt s named w →
      (pagesHeld s m.base m.pages → outcome = .next (completed .overlap zeros s)) ∧
      (¬pagesHeld s m.base m.pages →
        outcome =
          .next (completed .ok (oneWord w.val) { s with windows := s.windows.put w (.staged m) })) := by
  subst h
  have hover : s.quiet.overlaps m.base m.pages = true ↔ pagesHeld s m.base m.pages :=
    State.overlaps_eq_true_iff hr.quiet hp
  constructor
  · intro hnone
    rw [stageAt_of_noIndex (s := s.quiet) hnone, result_refuse_quiet]
  intro w hw
  rw [stageAt_of_index (s := s.quiet) hw]
  constructor
  · intro hheld
    rw [if_pos (hover.2 hheld), result_refuse_quiet]
  · intro hfree
    rw [if_neg (hfree ∘ hover.1), result_finish_putWindow]

end

/-! ### A window from a request: steps 4 to 7 (R7, R9) -/

/-- The rights a request leaves: all that are asked of a writable one, READ of another, unless WRITE alone was asked. -/
theorem effectiveRights_eq (asked : Rights) (writable : Bool) :
    effectiveRights asked writable =
      if writable = false ∧ asked = .write then none else some (if writable then asked else .read) := by
  cases writable <;> cases asked <;> rfl

/-- What WIN_STAGE would write for a request that passes its checks. -/
def grantedMapping (o : StageOperands) (q : Fin 6) (r : Request) : Mapping where
  slot := o.slot
  request := some q
  kind := r.kind
  rights := if r.writable then o.rights else .read
  base := o.base
  pages := r.pages
  moduleBase := r.base

section

variable {s : State} {o : StageOperands} {q : Fin 6} {r : Request}

theorem stageGranted_of_badOperand (h : r.writable = false ∧ o.rights = .write ∨ 262144 < o.base + r.pages) :
    stageGranted o q r s = .refuse .badOperand := by
  rw [stageGranted, effectiveRights_eq]
  by_cases hrights : r.writable = false ∧ o.rights = .write
  · rw [if_pos hrights]
  · rw [if_neg hrights]
    exact if_pos (h.resolve_left hrights)

/-- Steps 6 to 9, where a right is left and the range lies in the aperture. -/
theorem stageGranted_of_inAperture (hrights : ¬(r.writable = false ∧ o.rights = .write))
    (hin : o.base + r.pages ≤ 262144) :
    stageGranted o q r s =
      if o.base % 2 ^ r.alignment ≠ 0 then .refuse .alignment
      else if (s.granting o.slot q).isSome then .refuse .requestTaken
      else stageAt o.window (grantedMapping o q r) s := by
  rw [stageGranted, effectiveRights_eq, if_neg hrights]
  exact if_neg (Nat.not_lt.2 hin)

end

/-! ### A host-defined window: step 5 (R8) -/

/-- What WIN_STAGE would write from the operands alone. -/
def hostDefinedMapping (o : StageOperands) : Mapping where
  slot := o.slot
  request := none
  kind := o.kind
  rights := o.rights
  base := o.base
  pages := o.pages
  moduleBase := o.moduleBase

section

variable {s : State} {o : StageOperands}

theorem stageHostDefined_of_badOperand
    (h : o.pages = 0 ∨ 65536 < o.pages ∨ 262144 < o.base + o.pages ∨ 1048576 < o.moduleBase + o.pages) :
    stageHostDefined o s = .refuse .badOperand :=
  if_pos h

theorem stageHostDefined_of_inRange (h1 : 1 ≤ o.pages) (h2 : o.pages ≤ 65536) (h3 : o.base + o.pages ≤ 262144)
    (h4 : o.moduleBase + o.pages ≤ 1048576) :
    stageHostDefined o s = stageAt o.window (hostDefinedMapping o) s := by
  refine if_neg ?_
  simp only [Config.maxPages, Config.aperturePages, Config.modulePages]
  omega

end

/-! ### WIN_STAGE, steps 2 to 5 (R5, R6, R8) -/

section

variable {s : State} {o : StageOperands}

theorem stageWindow_of_noProfile (h : (s.slots.get o.slot).profile = none) :
    stageWindow s o = .refuse .noProfile := by
  simp only [stageWindow, h]

theorem stageWindow_of_request {p : Profile} {q : Fin 6} {r : Request} (ho : o.request = some q)
    (hp : (s.slots.get o.slot).profile = some p) (hr : p.requests[q.val]? = some r) :
    stageWindow s o = stageGranted o q r s := by
  simp only [stageWindow, hp, ho, hr]

theorem stageWindow_of_noRequest {p : Profile} {q : Fin 6} (ho : o.request = some q)
    (hp : (s.slots.get o.slot).profile = some p) (hr : p.requests.length ≤ q.val) :
    stageWindow s o = .refuse .badOperand := by
  simp only [stageWindow, hp, ho, List.getElem?_eq_none hr]

theorem stageWindow_of_hostDefined (ho : o.request = none) (hp : (s.slots.get o.slot).profile ≠ none) :
    stageWindow s o = stageHostDefined o s := by
  obtain ⟨p, hp⟩ := Option.ne_none_iff_exists'.1 hp
  simp only [stageWindow, hp, ho]

end

/-! ### The operands of WIN_STAGE (R154) -/

section

variable {w : Word} {named : Option WinIx} {n : SlotIx} {request : Option (Fin 6)} {rights : Rights} {kind : Kind}

/-- The code of each operand fits in its field. -/
theorem stageWord_bounds (named : Option WinIx) (request : Option (Fin 6)) (rights : Rights) (kind : Kind) :
    named.elim 127 Fin.val < 128 ∧ request.elim 7 Fin.val < 8 ∧ rightsNumber rights < 4 ∧ kindNumber kind < 2 := by
  refine ⟨?_, ?_, rightsNumber_lt rights, kindNumber_lt kind⟩
  · cases named with
    | none => decide
    | some w => exact w.isLt.trans (by decide)
  · cases request with
    | none => decide
    | some q => exact q.isLt.trans (by decide)

theorem stageWord_lt : stageWord named n request rights kind < 2 ^ 21 := by
  have := stageWord_bounds named request rights kind
  unfold stageWord
  omega

/-- The fields of word 0 of WIN_STAGE are the operands it is put together from. -/
theorem field_stageWord (hw : w.toNat = stageWord named n request rights kind) :
    field w 0 7 = named.elim 127 Fin.val ∧ field w 8 3 = n.val ∧ field w 12 3 = request.elim 7 Fin.val ∧
      field w 16 2 = rightsNumber rights ∧ field w 20 1 = kindNumber kind := by
  have := stageWord_bounds named request rights kind
  simp only [field_eq, hw, stageWord]
  omega

/-- Word 0 of WIN_STAGE has no bit outside its operands. -/
theorem within_stageWord (hw : w.toNat = stageWord named n request rights kind) : within w 0x0013777F = true := by
  rw [within_iff_gaps [(7, 1), (11, 1), (15, 1), (18, 2), (21, 11)] w (by decide)]
  have := stageWord_bounds named request rights kind
  simp only [List.forall_mem_cons, List.not_mem_nil, false_implies, implies_true, and_true, field_eq, hw, stageWord]
  omega

end

/-- The operands a WIN_STAGE takes, when word 0 is put together as R154 says and the words in use are in range. -/
theorem stageOperands_of_operand {s : State} {named : Option WinIx} {n : SlotIx} {request : Option (Fin 6)}
    {rights : Rights} {kind : Kind} {base : Nat} (h0 : operand s 0 (stageWord named n request rights kind))
    (h1 : operand s 1 base) (hbase : base < 262144)
    (hused : request = none → (s.engine.takenOperands.get 2).toNat < 2 ^ 17 ∧
      (s.engine.takenOperands.get 3).toNat < 2 ^ 20) :
    stageOperands s.engine.takenOperands =
      some
        { window := named, slot := n, request, rights, base, kind
          pages := field (s.engine.takenOperands.get 2) 0 17
          moduleBase := field (s.engine.takenOperands.get 3) 0 20 } := by
  have hword : (s.engine.takenOperands.get 0).toNat = stageWord named n request rights kind := by
    rw [h0, toNat_ofNat_word (stageWord_lt.trans (by decide))]
  have hbaseWord : (s.engine.takenOperands.get 1).toNat = base := by rw [h1, toNat_ofNat_word (by omega)]
  obtain ⟨hnamed, hslot, hrequest, hrights, hkind⟩ := field_stageWord hword
  have hbaseField : field (s.engine.takenOperands.get 1) 0 18 = base := by
    rw [field_eq, hbaseWord]
    omega
  have hin0 := within_stageWord hword
  have hin1 : within (s.engine.takenOperands.get 1) 0x0003FFFF = true := by
    rw [within_low_iff 18 _ (by decide) (by decide), hbaseWord]
    exact hbase
  have hin23 : request = none → within (s.engine.takenOperands.get 2) 0x0001FFFF = true ∧
      within (s.engine.takenOperands.get 3) 0x000FFFFF = true := fun hnone =>
    ⟨(within_low_iff 17 _ (by decide) (by decide)).2 (hused hnone).1,
      (within_low_iff 20 _ (by decide) (by decide)).2 (hused hnone).2⟩
  simpa [stageOperands, hnamed, hslot, hrequest, hrights, hkind, hbaseField] using ⟨hin0, hin1, hin23⟩

/-- A WIN_STAGE whose operands pass the common checks goes on to steps 2 to 9. -/
theorem exec_winStage {s : State} {o : StageOperands} (h : executing 0x01 s)
    (ho : stageOperands s.engine.takenOperands = some o) :
    exec .winStage s = .next ((stageWindow s.quiet o).result s.quiet) :=
  taken_checked (c := .winStage) stageWindow h ho

/-! ### WIN_RELEASE, WIN_READ and WIN_LOOKUP in execution -/

theorem exec_winRelease {s : State} {w : WinIx} (h : executing 0x04 s) (hw : operand s 0 w.val) :
    exec .winRelease s = .next ((releaseWindow s.quiet w).result s.quiet) :=
  taken_checked (c := .winRelease) releaseWindow h (windowOperand_of_operand hw)

/-- WIN_READ completes with the words of the window's record and changes nothing else (R26). -/
theorem exec_winRead {s : State} {w : WinIx} (h : executing 0x05 s) (hw : operand s 0 w.val) :
    exec .winRead s = .next (completed .ok (winReadWords (s.windows.get w)) s) :=
  taken_checked (c := .winRead) readWindow h (windowOperand_of_operand hw)

/-- WIN_LOOKUP completes with the words of what the lookup finds and changes nothing else (R27). -/
theorem exec_winLookup {s : State} {page : Nat} (h : executing 0x06 s) (hpage : operand s 0 page)
    (hlt : page < 262144) :
    exec .winLookup s =
      .next (completed .ok (winLookupWords ((s.lookup page).map fun w => (w, s.windows.get w))) s) :=
  taken_checked (c := .winLookup) lookupPage h (pageOperand_of_operand hpage hlt)

/-! ### The result words of WIN_READ (R155) -/

/-- The kind and the rights of a mapping, above the fields below bit 12. -/
theorem Packs.or_kind_rights {b : Word} {n v : Nat} (hb : Packs b n v) (hn : n ≤ 12) (kind : Kind) (rights : Rights) :
    Packs (b ||| place kind.code 12 1 ||| place rights.code 16 2) 18
      (v + 4096 * kindNumber kind + 65536 * rightsNumber rights) := by
  rw [Kind.code_eq, Rights.code_eq]
  exact (hb.or_place (lo := 12) hn (kindNumber_lt kind) (by decide)).or_place (lo := 16) (len := 2) (by decide)
    (rightsNumber_lt rights) (by decide)

/-- The fields of a mapping, above the window's state. -/
theorem Packs.or_mapping {c : Word} {a : Nat} (hc : Packs c 2 a) (m : Mapping) :
    Packs (c ||| m.word0) 18 (a + mappingNumber m) := by
  obtain ⟨slot, request, kind, rights, _, _, _⟩ := m
  have hslot := hc.or_place (lo := 4) (len := 3) (by decide) slot.isLt (by decide)
  cases request with
  | none =>
    have h := hslot.or_kind_rights (by decide) kind rights
    simpa [Mapping.word0, mappingNumber, BitVec.or_assoc, Nat.add_assoc] using h
  | some q =>
    have hq := hslot.or_place (lo := 8) (len := 3) (v := q.val) (by decide) (by omega) (by decide)
    have h := (hq.or_flag (k := 11) true (by decide) (by decide)).or_kind_rights (by decide) kind rights
    simpa [Mapping.word0, mappingNumber, BitVec.or_assoc, Nat.add_assoc] using h

/-- The close ticket's id and its flag, above the window's base. -/
theorem Packs.or_closeTicketWord {b : Word} {v : Nat} (hb : Packs b 18 v) (ticket : Option Nat)
    (h : ∀ id, ticket = some id → id < 256) :
    Packs (b ||| closeTicketWord ticket) 32 (v + ticket.elim 0 fun id => 2 ^ 23 + 2 ^ 24 * id) := by
  cases ticket with
  | none => simpa [closeTicketWord] using hb.mono (by decide)
  | some id =>
    have hid := (hb.or_flag (k := 23) true (by decide) (by decide)).or_place (lo := 24) (len := 8) (by decide)
      (h id rfl) (by decide)
    simpa [closeTicketWord, BitVec.or_assoc, Nat.add_assoc] using hid

/-- The disposition and its flag, above the window's pages. -/
theorem Packs.or_dispositionWord {b : Word} {v : Nat} (hb : Packs b 17 v) (disposition : Option Disposition) :
    Packs (b ||| dispositionWord disposition) 26
      (v + disposition.elim 0 fun d => 2 ^ 24 + 2 ^ 25 * d.code) := by
  cases disposition with
  | none => simpa [dispositionWord] using hb.mono (by decide)
  | some d =>
    have hd := (hb.or_flag (k := 24) true (by decide) (by decide)).or_place (lo := 25) (len := 1) (v := d.code)
      (by decide) (by cases d <;> decide) (by decide)
    simpa [dispositionWord, BitVec.or_assoc, Nat.add_assoc] using hd

/-- The result words of WIN_READ for a window that is not FREE: each field at its place. -/
theorem reads_winReadWords {x : Window} {m : Mapping} (h : x.mapping = some m) (hm : m.inRange = true)
    (hrefs : x.refs ≤ 24) (hticket : ∀ id, x.closeTicket = some id → id < 256) :
    reads (winReadWords x) 0 (windowNumber x + mappingNumber m + 2 ^ 24 * x.refs) ∧
      reads (winReadWords x) 1 (m.base + x.closeTicket.elim 0 fun id => 2 ^ 23 + 2 ^ 24 * id) ∧
      reads (winReadWords x) 2 (m.pages + x.disposition.elim 0 fun d => 2 ^ 24 + 2 ^ 25 * d.code) ∧
      reads (winReadWords x) 3 m.moduleBase := by
  obtain ⟨hpages, hmax, hbase, hmodule⟩ := of_decide_eq_true hm
  simp only [Config.maxPages, Config.aperturePages, Config.modulePages] at hmax hbase hmodule
  have hstate : Packs (place x.code 0 2) 2 (windowNumber x) := by
    rw [Window.code_eq]
    exact Packs.place_zero (windowNumber_lt x) (by decide)
  have hbasePlace : Packs (place m.base 0 18) 18 m.base := Packs.place_zero (by omega) (by decide)
  have hpagesPlace : Packs (place m.pages 0 17) 17 m.pages := Packs.place_zero (by omega) (by decide)
  have hmodulePlace : Packs (place m.moduleBase 0 20) 20 m.moduleBase := Packs.place_zero (by omega) (by decide)
  simp only [reads, winReadWords, h, words_get_zero, words_get_one, words_get_two, words_get_three]
  exact ⟨((hstate.or_mapping m).or_place (lo := 24) (len := 5) (by decide) (by omega) (by decide)).1,
    (hbasePlace.or_closeTicketWord _ hticket).1, (hpagesPlace.or_dispositionWord _).1, hmodulePlace.1⟩

/-- The result words of WIN_LOOKUP for a window found: its index and its state. -/
theorem winLookupWords_some (w : WinIx) (x : Window) :
    winLookupWords (some (w, x)) = oneWord (w.val + 256 * windowNumber x) := by
  have hindex : Packs (place w.val 0 6) 6 w.val := Packs.place_zero w.isLt (by decide)
  rw [winLookupWords, Window.code_eq]
  exact words_eq_oneWord (hindex.or_place (lo := 8) (len := 2) (by decide) (windowNumber_lt x) (by decide)).1

/-- The result words of WIN_LOOKUP where no window covers the page: bit 31 alone. -/
theorem winLookupWords_none : winLookupWords none = oneWord (2 ^ 31) :=
  words_eq_oneWord (by decide)

end Sys2Proof.Machine

/-! ### The obligations -/

namespace Sys2Proof.WindowTable

open Sys2Proof.Machine Sys2Proof.Expected

/-- Settles O25: each check of R5 in its order refuses by its own lemma, and the last case writes the window. -/
theorem winStageGrantsRequest : Obligations.WinStageGrantsRequest := by
  intro s named n q asked kind base hexec hranges h0 h1 hbase
  have hrun := exec_winStage hexec
    (stageOperands_of_operand h0 h1 hbase fun hnone => absurd hnone (Option.some_ne_none q))
  constructor
  · intro hprofile
    rw [hrun, stageWindow_of_noProfile hprofile, result_refuse_quiet]
  intro p hprofile
  constructor
  · intro hlength
    rw [hrun, stageWindow_of_noRequest rfl hprofile hlength, result_refuse_quiet]
  intro r hrequest
  have hpages : 0 < r.pages := hranges.request_pages_pos hprofile hrequest
  rw [stageWindow_of_request rfl hprofile hrequest] at hrun
  constructor
  · intro hbad
    rw [hrun, stageGranted_of_badOperand hbad, result_refuse_quiet]
  intro hrights hin
  rw [stageGranted_of_inAperture hrights hin] at hrun
  constructor
  · intro halign
    rw [hrun, if_pos halign, result_refuse_quiet]
  intro halign
  rw [if_neg (not_not.2 halign)] at hrun
  have hgranting : (s.quiet.granting n q).isSome = true ↔ requestHeld s n q := State.granting_isSome_iff
  constructor
  · intro htaken
    rw [hrun, if_pos (hgranting.2 htaken), result_refuse_quiet]
  intro hfree
  rw [if_neg (hfree ∘ hgranting.1)] at hrun
  exact completes_stageAt hrun hranges hpages

/-- Settles O26: steps 2 and 5 of R5, and then the shared end of WIN_STAGE. -/
theorem winStageHostDefined : Obligations.WinStageHostDefined := by
  intro s named n asked kind base pages moduleBase hexec hranges h0 h1 h2 h3 hbase hpages hmodule
  have hpagesWord : (s.engine.takenOperands.get 2).toNat = pages := by rw [h2, toNat_ofNat_word (by omega)]
  have hmoduleWord : (s.engine.takenOperands.get 3).toNat = moduleBase := by rw [h3, toNat_ofNat_word (by omega)]
  have hpagesField : field (s.engine.takenOperands.get 2) 0 17 = pages := by
    rw [field_eq, hpagesWord]
    omega
  have hmoduleField : field (s.engine.takenOperands.get 3) 0 20 = moduleBase := by
    rw [field_eq, hmoduleWord]
    omega
  have hoperands := stageOperands_of_operand h0 h1 hbase fun _ =>
    ⟨hpagesWord.trans_lt hpages, hmoduleWord.trans_lt hmodule⟩
  rw [hpagesField, hmoduleField] at hoperands
  have hrun := exec_winStage hexec hoperands
  constructor
  · intro hprofile
    rw [hrun, stageWindow_of_noProfile hprofile, result_refuse_quiet]
  intro hprofile
  rw [stageWindow_of_hostDefined rfl hprofile] at hrun
  constructor
  · intro hbad
    rw [hrun, stageHostDefined_of_badOperand hbad, result_refuse_quiet]
  intro hpos hmax hin hmoduleIn
  rw [stageHostDefined_of_inRange hpos hmax hin hmoduleIn] at hrun
  exact completes_stageAt hrun hranges hpos

/-- Settles O29: one case for each state a window can be in. -/
theorem winReleaseByState : Obligations.WinReleaseByState := by
  intro s w hexec hw
  rw [exec_winRelease hexec hw, releaseWindow, State.quiet_windows]
  refine ⟨?_, ?_, ?_⟩
  · rintro (hfree | ⟨m, refs, hopened⟩)
    · rw [hfree, result_refuse_quiet]
    · rw [hopened, result_refuse_quiet]
  · intro m hstaged
    rw [hstaged, result_finish_putWindow]
    rfl
  · intro m refs d ticket hclosing
    rw [hclosing, result_finish_putWindow]
    rfl

/-- Settles O30: the words of a FREE window are all 0, those of another hold its fields. -/
theorem winReadReturnsRecord : Obligations.WinReadReturnsRecord := by
  intro s w hexec hw hrange hrefs hticket
  refine ⟨winReadWords (s.windows.get w), exec_winRead hexec hw, ?_⟩
  generalize s.windows.get w = x at hrange hrefs hticket
  cases x with
  | free => decide
  | staged m =>
    have h := reads_winReadWords rfl (hrange m rfl) hrefs hticket
    simp only [windowNumber, Window.refs, Window.closeTicket, Window.disposition, Option.elim_none, Nat.mul_zero,
      Nat.add_zero] at h
    exact h
  | opened m refs =>
    have h := reads_winReadWords rfl (hrange m rfl) hrefs hticket
    simp only [windowNumber, Window.refs, Window.closeTicket, Window.disposition, Option.elim_none, Nat.add_zero] at h
    exact h
  | closing m refs d ticket =>
    have h := reads_winReadWords rfl (hrange m rfl) hrefs hticket
    simp only [windowNumber, Window.refs, Window.closeTicket, Window.disposition, Option.elim_some,
      ← Nat.add_assoc m.pages] at h
    cases d <;> exact h

/-- Settles O31: the lookup finds the one window that covers the page, and nothing where none does. -/
theorem winLookupFindsCover : Obligations.WinLookupFindsCover := by
  intro s page hexec hpage hlt
  rw [exec_winLookup hexec hpage hlt]
  constructor
  · rintro w ⟨hcovers, honce⟩
    rw [State.lookup_of_covers hcovers honce, Option.map_some, winLookupWords_some]
  · intro hnone
    rw [State.lookup_eq_none.2 hnone, Option.map_none, winLookupWords_none]

end Sys2Proof.WindowTable

/-! PROOFS. The Aperture Decoder (chapter 2): the accesses that a check refuses. -/

namespace Sys2Proof.Machine

open Sys2Proof.Expected

/-! ### A host tag taken and freed in one step (R148, R149) -/

/-- Of two writes to one record the second stands. -/
theorem put_put_same {n : Nat} {α : Type} (t : Tbl n α) (i : Fin n) (a b : α) : (t.put i a).put i b = t.put i b :=
  Vector.set_set a i.isLt

/-- A record written with what it holds is the same record. -/
theorem put_get_self {n : Nat} {α : Type} (t : Tbl n α) (i : Fin n) : t.put i (t.get i) = t :=
  Vector.set_getElem_self i.isLt

/-- A request entered in the Host Request Table and answered in the same step leaves nothing but its response. -/
theorem answer_claimed {s : State} {tag : HostTag} (hfree : s.hostTable.get tag = false) (code : RespCode)
    (data : Option Word) :
    (s.quiet.putHostTag tag true).answer tag code data = responding tag code data s := by
  have htable : (s.hostTable.put tag true).put tag false = s.hostTable := by
    rw [put_put_same, ← hfree, put_get_self]
  simp only [State.answer, State.putHostTag, State.putResponse, State.quiet, responding, htable]

/-! ### An access that the Host Port claims (R28, R148) -/

theorem sizeBytes_eq_bytes (size : Size) : sizeBytes size = bytes size := by
  cases size <;> rfl

/-- A claimed access of the aperture goes to the Aperture Decoder, its host tag IN_FLIGHT. -/
theorem exec_apertureAccess {s : State} {tag : HostTag} {addr : Word} {offset : Nat} (hclaim : claiming s tag)
    (hin : inAperture s addr offset) (op : Op) (size : Size) (data : Word) :
    exec (.apertureAccess tag op addr size data) s =
      .next ((s.quiet.putHostTag tag true).decodeAccess { tag, op, addr, size, data } offset) := by
  obtain ⟨hreset, hhost, hfree⟩ := hclaim
  obtain ⟨haddr, hoffset⟩ := hin
  have htarget : s.quiet.target addr = some (.aperture offset) :=
    State.target_aperture s.quiet addr offset haddr hoffset
  obtain ⟨-, -, -, haperture, -⟩ := s.quiet.hostRequest_eq { tag, op, addr, size, data }
  calc exec (.apertureAccess tag op addr size data) s
    _ = .next (s.quiet.hostRequest { tag, op, addr, size, data }) :=
      taken_of_running (·.hostRequest { tag, op, addr, size, data }) hreset
    _ = _ := by rw [haperture offset hhost htarget hfree]

/-- An access that the decoder only answers leaves nothing but its response. -/
theorem exec_apertureAccess_of_answer {s : State} {tag : HostTag} {op : Op} {addr : Word} {size : Size} {data : Word}
    {offset : Nat} {code : RespCode} (hclaim : claiming s tag) (hin : inAperture s addr offset)
    (hdecode : (s.quiet.putHostTag tag true).decodeAccess { tag, op, addr, size, data } offset =
      (s.quiet.putHostTag tag true).answer tag code none) :
    exec (.apertureAccess tag op addr size data) s = .next (responding tag code none s) := by
  rw [exec_apertureAccess hclaim hin, hdecode]
  obtain ⟨-, -, hfree⟩ := hclaim
  rw [answer_claimed hfree]

/-! ### The checks, in order (R29) -/

section

variable {s : State} {r : HostRequest} {offset : Nat} {w : WinIx}

/-- Check 1 (R30). -/
theorem decodeAccess_of_misaligned (halign : r.addr.toNat % sizeBytes r.size ≠ 0) :
    s.decodeAccess r offset = s.answer r.tag .misaligned none :=
  if_pos halign

/-- Check 2 (R31). -/
theorem decodeAccess_of_noWindow (halign : r.addr.toNat % sizeBytes r.size = 0)
    (hnone : ∀ u, (s.windows.get u).covers (offset / 4096) = false) :
    s.decodeAccess r offset = s.answer r.tag .noWindow none := by
  rw [State.decodeAccess, if_neg (not_not.2 halign), State.lookup_eq_none.2 hnone]

/-- Check 3 (R31). -/
theorem decodeAccess_of_notOpened (halign : r.addr.toNat % sizeBytes r.size = 0)
    (hcover : coveredBy s (offset / 4096) w) (hclosed : ∀ m refs, s.windows.get w ≠ .opened m refs) :
    s.decodeAccess r offset = s.answer r.tag .windowClosed none := by
  obtain ⟨hcovers, honce⟩ := hcover
  rw [State.decodeAccess, if_neg (not_not.2 halign), State.lookup_of_covers hcovers honce]
  cases hw : s.windows.get w with
  | opened m refs => exact absurd hw (hclosed m refs)
  | free => simp only [hw]
  | staged m => simp only [hw]
  | closing m refs d ticket => simp only [hw]

/-- Checks 4 and 5, which an OPEN window leaves: the rights (R32) and room in the Pending Queue (R33). -/
theorem decodeAccess_of_opened {m : Mapping} {refs : Nat} (halign : r.addr.toNat % sizeBytes r.size = 0)
    (hcover : coveredBy s (offset / 4096) w) (hw : s.windows.get w = .opened m refs) :
    s.decodeAccess r offset =
      if m.rights.allows r.op then
        if (s.links.get m.slot).queue.length < 16 then s.accept w m refs r offset else s.answer r.tag .retry none
      else s.answer r.tag .denied none := by
  obtain ⟨hcovers, honce⟩ := hcover
  rw [State.decodeAccess, if_neg (not_not.2 halign), State.lookup_of_covers hcovers honce]
  simp only [hw]
  rfl

/-- The rights table: READ refuses a write, WRITE refuses a read, and nothing else is refused (R32). -/
theorem allows_eq_false_iff (rights : Rights) (op : Op) :
    rights.allows op = false ↔ rights = .read ∧ op = .write ∨ rights = .write ∧ op = .read := by
  cases rights <;> cases op <;> decide

/-- Check 4 (R32). -/
theorem decodeAccess_of_denied {m : Mapping} {refs : Nat} (halign : r.addr.toNat % sizeBytes r.size = 0)
    (hcover : coveredBy s (offset / 4096) w) (hw : s.windows.get w = .opened m refs)
    (hdenied : m.rights = .read ∧ r.op = .write ∨ m.rights = .write ∧ r.op = .read) :
    s.decodeAccess r offset = s.answer r.tag .denied none := by
  have hallows : m.rights.allows r.op = false := (allows_eq_false_iff _ _).2 hdenied
  rw [decodeAccess_of_opened halign hcover hw, if_neg (Bool.eq_false_iff.1 hallows)]

/-- Check 5 (R33). -/
theorem decodeAccess_of_fullQueue {m : Mapping} {refs : Nat} (halign : r.addr.toNat % sizeBytes r.size = 0)
    (hcover : coveredBy s (offset / 4096) w) (hw : s.windows.get w = .opened m refs)
    (hallowed : ¬(m.rights = .read ∧ r.op = .write ∨ m.rights = .write ∧ r.op = .read))
    (hfull : 16 ≤ (s.links.get m.slot).queue.length) :
    s.decodeAccess r offset = s.answer r.tag .retry none := by
  have hallows : m.rights.allows r.op = true := Bool.of_not_eq_false fun h => hallowed ((allows_eq_false_iff _ _).1 h)
  rw [decodeAccess_of_opened halign hcover hw, if_pos hallows, if_neg (Nat.not_lt.2 hfull)]

end

end Sys2Proof.Machine

/-! ### The obligations -/

namespace Sys2Proof.ApertureAccess

open Sys2Proof.Machine Sys2Proof.Expected

/-- Settles O9: one lemma for each check of R29, and what an answered access leaves. -/
theorem refusedAccessAnswersOnly : Obligations.RefusedAccessAnswersOnly := by
  intro s tag op addr size data offset hclaim hin
  rw [← sizeBytes_eq_bytes]
  constructor
  · intro halign
    exact exec_apertureAccess_of_answer hclaim hin (decodeAccess_of_misaligned halign)
  intro halign
  constructor
  · intro hnone
    exact exec_apertureAccess_of_answer hclaim hin (decodeAccess_of_noWindow halign hnone)
  intro w hcover
  constructor
  · intro hclosed
    exact exec_apertureAccess_of_answer hclaim hin (decodeAccess_of_notOpened halign hcover hclosed)
  intro m refs hopened
  constructor
  · intro hdenied
    exact exec_apertureAccess_of_answer hclaim hin (decodeAccess_of_denied halign hcover hopened hdenied)
  · intro hallowed hfull
    exact exec_apertureAccess_of_answer hclaim hin (decodeAccess_of_fullQueue halign hcover hopened hallowed hfull)

end Sys2Proof.ApertureAccess

/-! PROOFS. The Attention Router (chapter 6): EOS, SRC_ROUTE, SRC_READ and part reset. -/

namespace Sys2Proof.Machine

open Sys2Proof.Expected

/-! ### The common checks that fail (R132) -/

/-- The command in execution, when its operands do not pass the common checks. -/
theorem taken_checked_none {α : Type} {s : State} {c : Command} {operands : Tbl 4 Word → Option α}
    (body : State → α → Completion) (h : executing (commandNumber c) s)
    (hnone : operands s.engine.takenOperands = none) :
    taken (runCommand c fun o s => checked (operands o) (body s)) s = .next (completed .badOperand zeros s) := by
  rw [taken_runCommand _ h, hnone]
  rfl

/-- The range check of an index finds exactly the index of its number. -/
theorem indexOf_eq_some_iff {n v : Nat} {i : Fin n} : indexOf n v = some i ↔ v = i.val := by
  constructor
  · intro h
    obtain ⟨_, rfl⟩ : ∃ hv : v < n, ⟨v, hv⟩ = i := by simpa [indexOf] using h
    rfl
  · rintro rfl
    exact indexOf_val i

/-! ### The operands of SRC_ROUTE and SRC_READ (R154) -/

/-- Word 0 of SRC_ROUTE, put together from its operands (R154). -/
def RouteOperands.number (r : RouteOperands) : Nat :=
  r.source.val + 256 * bit r.enable + 4096 * r.line.val + 65536 * r.priority.val

theorem RouteOperands.number_lt (r : RouteOperands) : r.number < 2 ^ 19 := by
  have : bit r.enable < 2 := Bool.toNat_lt r.enable
  unfold number
  omega

/-- The unassigned bits of word 0 of SRC_ROUTE are four runs (R154). -/
theorem within_route_iff (w : Word) :
    within w 0x0007311F = true ↔
      w.toNat / 32 % 8 = 0 ∧ w.toNat / 512 % 8 = 0 ∧ w.toNat / 16384 % 4 = 0 ∧ w.toNat < 2 ^ 19 := by
  rw [within_iff_gaps [(5, 3), (9, 3), (14, 2), (19, 13)] w (by decide)]
  simp only [List.forall_mem_cons, List.not_mem_nil, false_implies, implies_true, and_true, field_eq]
  omega

/-- The enable operand is the bit at its place. -/
theorem field_one_beq_eq_iff (w : Word) (lo : Nat) (b : Bool) : (field w lo 1 == 1) = b ↔ field w lo 1 = bit b := by
  have : field w lo 1 < 2 := by rw [field_eq]; omega
  cases b with
  | false =>
    rw [beq_eq_false_iff_ne, bit, Bool.toNat_false]
    omega
  | true => simp

/-- Decoding and encoding of SRC_ROUTE agree: the operands taken are those word 0 is put together from. -/
theorem routeOperands_eq_some_iff (o : Tbl 4 Word) (r : RouteOperands) :
    routeOperands o = some r ↔ (o.get 0).toNat = r.number := by
  obtain ⟨source, enable, line, priority⟩ := r
  have hfields : routeOperands o = some ⟨source, enable, line, priority⟩ ↔
      field (o.get 0) 0 5 = source.val ∧ field (o.get 0) 12 2 = line.val ∧ field (o.get 0) 16 3 = priority.val ∧
        within (o.get 0) 0x0007311F = true ∧ field (o.get 0) 8 1 = bit enable := by
    simp [routeOperands, Option.bind_eq_some_iff, indexOf_eq_some_iff, ← field_one_beq_eq_iff]
  have : bit enable < 2 := Bool.toNat_lt enable
  rw [hfields, within_route_iff]
  simp only [field_eq, RouteOperands.number]
  omega

/-- The common checks of SRC_ROUTE refuse every word 0 that no operands give. -/
theorem routeOperands_eq_none {o : Tbl 4 Word} (h : operandsPass .srcRoute o = false) : routeOperands o = none := by
  rw [Option.eq_none_iff_forall_ne_some]
  intro r hr
  have hword := (routeOperands_eq_some_iff o r).1 hr
  have : bit r.enable < 2 := Bool.toNat_lt r.enable
  refine of_decide_eq_false h ?_
  rw [hword, RouteOperands.number]
  omega

/-- The operand of SRC_READ is the whole of word 0. -/
theorem sourceOperand_eq_some_iff (o : Tbl 4 Word) (i : Fin 18) :
    sourceOperand o = some i ↔ (o.get 0).toNat = i.val := by
  rw [sourceOperand, Option.ite_none_right_eq_some, within_low_iff 5 _ (by decide) (by decide), indexOf_eq_some_iff,
    field_eq]
  omega

/-- The common checks of SRC_READ refuse every word 0 that is no source number. -/
theorem sourceOperand_eq_none {o : Tbl 4 Word} (h : operandsPass .srcRead o = false) : sourceOperand o = none := by
  rw [Option.eq_none_iff_forall_ne_some]
  intro i hi
  have hword := (sourceOperand_eq_some_iff o i).1 hi
  exact of_decide_eq_false h (hword ▸ i.isLt)

/-! ### SRC_ROUTE and SRC_READ in execution (R120, R122) -/

theorem exec_srcRoute_of_badOperand {s : State} (h : executing 0x20 s)
    (hbad : operandsPass .srcRoute s.engine.takenOperands = false) :
    exec .srcRoute s = .next (completed .badOperand zeros s) :=
  taken_checked_none (c := .srcRoute) routeSource h (routeOperands_eq_none hbad)

theorem exec_srcRoute {s : State} {r : RouteOperands} (h : executing 0x20 s) (hr : operand s 0 r.number) :
    exec .srcRoute s = .next ((routeSource s.quiet r).result s.quiet) := by
  have hword : (s.engine.takenOperands.get 0).toNat = r.number := by
    rw [hr, toNat_ofNat_word (r.number_lt.trans (by decide))]
  exact taken_checked (c := .srcRoute) routeSource h ((routeOperands_eq_some_iff _ r).2 hword)

theorem exec_srcRead_of_badOperand {s : State} (h : executing 0x21 s)
    (hbad : operandsPass .srcRead s.engine.takenOperands = false) :
    exec .srcRead s = .next (completed .badOperand zeros s) :=
  taken_checked_none (c := .srcRead) readSource h (sourceOperand_eq_none hbad)

/-- SRC_READ completes with the words of the record as it stands and changes nothing else. -/
theorem exec_srcRead {s : State} {i : Fin 18} (h : executing 0x21 s) (hi : operand s 0 i.val) :
    exec .srcRead s = .next (completed .ok (srcReadWords (s.sources.get i)) s) := by
  have hword : (s.engine.takenOperands.get 0).toNat = i.val := by rw [hi, toNat_ofNat_word (by omega)]
  exact taken_checked (c := .srcRead) readSource h ((sourceOperand_eq_some_iff _ i).2 hword)

/-- A command that replaces one source completes with that source replaced; CMD_DONE is added after it (R120). -/
theorem result_finish_putSource (s : State) (code : ResultCode) (results : Tbl 4 Word) (i : Fin 18) (r : Source) :
    (Completion.finish code results (s.quiet.putSource i r)).result s.quiet =
      completed code results { s with sources := s.sources.put i r } := rfl

/-- The result words of SRC_READ: each field of the record at its place in word 0 (R155). -/
theorem srcReadWords_eq (r : Source) :
    srcReadWords r =
      oneWord (r.causes.toNat + 256 * bit r.enable + 4096 * r.line.val + 65536 * r.priority.val) := by
  have hcauses : Packs (place r.causes.toNat 0 8) 8 r.causes.toNat := Packs.place_zero r.causes.isLt (by decide)
  have henable := hcauses.or_flag (k := 8) r.enable (by decide) (by decide)
  have hline := henable.or_place (lo := 12) (len := 2) (by decide) r.line.isLt (by decide)
  exact words_eq_oneWord (hline.or_place (lo := 16) (len := 3) (by decide) r.priority.isLt (by decide)).1

/-! ### A write of a control block word (R148, R151) -/

/-- The address of a word of the block is its base and its offset. -/
theorem State.blockAddress_toNat (s : State) {offset : Nat} (h : offset ≤ 0xFF) :
    (s.blockAddress offset).toNat = s.controlBase + offset := by
  have := s.cbStrap.isLt
  exact toNat_ofNat_word (by unfold controlBase; omega)

/-- A claimed request at an offset of the block reaches the control block, its host tag IN_FLIGHT. -/
theorem State.hostRequest_of_controlBlock {s : State} {r : HostRequest} {offset : Nat} (hhost : s.hostReset = false)
    (hfree : s.hostTable.get r.tag = false) (haddr : r.addr.toNat = s.controlBase + offset) (h : offset ≤ 0xFF) :
    s.hostRequest r = (s.putHostTag r.tag true).controlAccess r offset := by
  obtain ⟨-, -, -, -, hcontrol⟩ := s.hostRequest_eq r
  exact hcontrol offset hhost (s.target_controlBlock r.addr offset haddr h) hfree

/-- A 4-byte write of a word that allows it is answered OK in the step. -/
theorem State.controlAccess_of_write {s t : State} {tag : HostTag} {addr data : Word} {offset : Nat} {b : BlockWord}
    (hword : accessedWord .four offset = some b) (hwrite : s.writeWord data b = some t) :
    s.controlAccess { tag, op := .write, addr, size := .four, data } offset = t.answer tag .ok none := by
  simp only [controlAccess, hword, hwrite]

/-! ### EOS (R117, R118) -/

theorem accessedWord_eosOffset (l : LineIx) : accessedWord .four (eosOffset l) = some (.eos l) := by
  revert l
  decide

theorem State.takeEos_hostTable (s : State) (l : LineIx) : (s.takeEos l).hostTable = s.hostTable := by
  obtain ⟨hspurious, hremove⟩ := s.takeEos_eq l
  cases hmax : inServiceMax (s.lines.get l) with
  | none => rw [hspurious hmax, State.raise_hostTable]
  | some p => rw [hremove p hmax, State.putLine_hostTable]

/-- EOS acts on the router alone, so the entry of its request and its effect commute. -/
theorem State.takeEos_claimed (s : State) (tag : HostTag) (l : LineIx) :
    (s.quiet.putHostTag tag true).takeEos l = (s.takeEos l).quiet.putHostTag tag true := by
  obtain ⟨hspurious, hremove⟩ := s.takeEos_eq l
  obtain ⟨hspurious', hremove'⟩ := (s.quiet.putHostTag tag true).takeEos_eq l
  cases hmax : inServiceMax (s.lines.get l) with
  | none =>
    rw [hspurious hmax]
    exact hspurious' hmax
  | some p =>
    rw [hremove p hmax]
    exact hremove' p hmax

/-- A claimed EOS has its effect on the line and is answered OK, whatever value is written. -/
theorem exec_eos {s : State} {tag : HostTag} (hclaim : claiming s tag) (l : LineIx) (value : Word) :
    exec (.eos tag l value) s = .next (responding tag .ok none (s.takeEos l)) := by
  obtain ⟨hreset, hhost, hfree⟩ := hclaim
  have hstill : (s.takeEos l).hostTable.get tag = false := by rwa [State.takeEos_hostTable]
  have hoffset : eosOffset l ≤ 0xFF := by unfold eosOffset; omega
  have hrequest := State.hostRequest_of_controlBlock (s := s.quiet)
    (r := s.quiet.writeRequest tag (eosOffset l) value) hhost hfree (s.quiet.blockAddress_toNat hoffset) hoffset
  calc exec (.eos tag l value) s
    _ = .next (s.quiet.hostRequest (s.quiet.writeRequest tag (eosOffset l) value)) :=
      taken_of_running (fun s => s.hostRequest (s.writeRequest tag (eosOffset l) value)) hreset
    _ = .next (((s.quiet.putHostTag tag true).takeEos l).answer tag .ok none) := by
      rw [hrequest, State.writeRequest, State.controlAccess_of_write (accessedWord_eosOffset l) rfl]
    _ = _ := by rw [State.takeEos_claimed, answer_claimed hstill]

/-- The empty in-service set has no maximum (R112). -/
theorem inServiceMax_zero : inServiceMax 0 = none := by decide

/-! ### The lines (R113) -/

/-- A line is deasserted while no source is enabled. -/
theorem State.lineAsserted_of_disabled {s : State} (h : ∀ i, (s.sources.get i).enable = false) (l : LineIx) :
    s.lineAsserted l = false := by
  have hnone : ∀ i, s.eligible l i = false := fun i => by simp [State.eligible, Source.eligible, h i]
  simp [lineAsserted, hnone]

end Sys2Proof.Machine

/-! ### The obligations -/

namespace Sys2Proof.AttentionRouting

open Sys2Proof.Machine Sys2Proof.Expected

/-- Settles O20: the maximum of the in-service set leaves it, or the set is empty and the cause is raised. -/
theorem eosEndsInnermostService : Obligations.EosEndsInnermostService := by
  intro s tag l value hclaim
  obtain ⟨hspurious, hremove⟩ := s.takeEos_eq l
  rw [exec_eos hclaim]
  constructor
  · intro p hmax
    rw [hremove p ((inServiceMax_eq_some _ p).2 hmax)]
    rfl
  · intro hempty
    have hnone : inServiceMax (s.lines.get l) = none := by rw [hempty, inServiceMax_zero]
    rw [hspurious hnone]
    rfl

/-- Settles O38: the record takes the three operands word 0 is put together from, and CMD_DONE is added last. -/
theorem srcRouteSetsRouting : Obligations.SrcRouteSetsRouting := by
  intro s hexec
  constructor
  · exact exec_srcRoute_of_badOperand hexec
  · intro i enable line priority hword
    rw [exec_srcRoute (r := ⟨i, enable, line, priority⟩) hexec hword]
    exact congrArg _ (result_finish_putSource s .ok noWords i _)

/-- Settles O39: the record's fields fill the result word, and the state is left as it was. -/
theorem srcReadReturnsRecord : Obligations.SrcReadReturnsRecord := by
  intro s hexec
  constructor
  · exact exec_srcRead_of_badOperand hexec
  · intro i hi
    rw [exec_srcRead hexec hi, srcReadWords_eq]

/-- Settles O6: every record is filled with its reset value, and a disabled source asserts no line. -/
theorem partResetClearsRouter : Obligations.PartResetClearsRouter := by
  intro s
  have hsources : ∀ i, State.reset.sources.get i = Source.reset := Tbl.get_fill Source.reset
  have hlines : ∀ l, State.reset.lines.get l = 0 := Tbl.get_fill 0
  refine ⟨_, rfl, hsources, hlines, ?_⟩
  exact State.lineAsserted_of_disabled fun i => congrArg Source.enable (hsources i)

end Sys2Proof.AttentionRouting

/-! PROOFS. The Command Engine (chapter 7): the common checks, the status word, the overrun, and the configuration. -/

namespace Sys2Proof.Machine

open Sys2Proof.Expected

/-! ### Every command, as its completion decides it (R129, R132) -/

/-- What a command decides from its taken operands, before its result is set. -/
def commandBody : Command → Tbl 4 Word → State → Completion
  | .nop => fun _ s => .finish .ok noWords s
  | .winStage => fun o s => checked (stageOperands o) (stageWindow s)
  | .winOpen => fun o s => checked (windowOperand o) (openWindow s)
  | .winClose => fun o s => checked (windowOperand o) (closeWindow s)
  | .winRelease => fun o s => checked (windowOperand o) (releaseWindow s)
  | .winRead => fun o s => checked (windowOperand o) (readWindow s)
  | .winLookup => fun o s => checked (pageOperand o) (lookupPage s)
  | .slotRead => fun o s => checked (slotOperand o) (readSlot s)
  | .profileRead => fun o s => checked (profileOperands o) (readProfile s)
  | .slotAdmit => fun o s => checked (slotOperand o) (admitSlot s)
  | .slotEject => fun o s => checked (slotOperand o) (ejectSlot s)
  | .slotRecover => fun o s => checked (slotOperand o) (recoverSlot s)
  | .slotClearPosted => fun o s => checked (slotOperand o) (clearPosted s)
  | .srcRoute => fun o s => checked (routeOperands o) (routeSource s)
  | .srcRead => fun o s => checked (sourceOperand o) (readSource s)
  | .ticketRead => fun o s => checked (ticketOperand o) (readTicket s)
  | .ticketCollect => fun o s => checked (ticketOperand o) (collectTicket s)
  | .partConfig => fun o s => checked (configOperands o) (configurePart s)
  | .partConfigRead => fun _ s => .finish .ok (configWords s.config) s

theorem exec_completion (c : Command) (s : State) : exec (completion c) s = taken (runCommand c (commandBody c)) s := by
  cases c <;> rfl

/-- The command in execution leaves the result of its body, decided on the state with the outputs cleared. -/
theorem exec_completion_of_executing {c : Command} {s : State} (h : executing (commandNumber c) s) :
    exec (completion c) s = .next ((commandBody c s.engine.takenOperands s.quiet).result s.quiet) := by
  rw [exec_completion, taken_runCommand _ h]

/-- The result code a command completes with. -/
def Completion.code : Completion → ResultCode
  | .refuse code => code
  | .finish code _ _ => code

@[simp] theorem Completion.code_refuse (code : ResultCode) : (Completion.refuse code).code = code := rfl

@[simp] theorem Completion.code_finish (code : ResultCode) (results : Tbl 4 Word) (s : State) :
    (Completion.finish code results s).code = code := rfl

/-- A completed command leaves the engine DONE with its result code (R129). -/
theorem Completion.result_state (d : Completion) (s : State) : (d.result s).engine.state = .finished d.code := by
  cases d <;> rfl

/-! ### The operands that are one number in the low bits of word 0 (R154) -/

/-- An index in the low bits passes when the whole word is a number in range. -/
theorem lowIndex_isSome {mask : Word} {n k : Nat} (w : Word) (hk : k ≤ 32) (h : ~~~mask = onesAt k (32 - k))
    (hn : n ≤ 2 ^ k) :
    (if within w mask = true then indexOf n (field w 0 k) else none).isSome = decide (w.toNat < n) := by
  have hin := within_low_iff k w hk h
  by_cases hw : w.toNat < 2 ^ k
  · have hfield : field w 0 k = w.toNat := by
      rw [field_eq, Nat.pow_zero, Nat.div_one, Nat.mod_eq_of_lt hw]
    rw [if_pos (hin.2 hw), hfield, indexOf, apply_dite Option.isSome]
    split <;> simp [*]
  · rw [if_neg (hw ∘ hin.1), Option.isSome_none, decide_eq_false (by omega)]

/-- A number in the low bits passes when the whole word is below its bound. -/
theorem lowNumber_isSome {mask : Word} {k : Nat} (w : Word) (hk : k ≤ 32) (h : ~~~mask = onesAt k (32 - k)) :
    (if within w mask = true then some (field w 0 k) else none).isSome = decide (w.toNat < 2 ^ k) := by
  simp only [← within_low_iff k w hk h, Bool.decide_eq_true]
  split <;> simp [*]

theorem windowOperand_isSome (o : Tbl 4 Word) : (windowOperand o).isSome = decide ((o.get 0).toNat < 64) :=
  lowIndex_isSome _ (by decide) (by decide) (by decide)

theorem slotOperand_isSome (o : Tbl 4 Word) : (slotOperand o).isSome = decide ((o.get 0).toNat < 8) :=
  lowIndex_isSome _ (by decide) (by decide) (by decide)

theorem sourceOperand_isSome (o : Tbl 4 Word) : (sourceOperand o).isSome = decide ((o.get 0).toNat < 18) :=
  lowIndex_isSome _ (by decide) (by decide) (by decide)

theorem pageOperand_isSome (o : Tbl 4 Word) : (pageOperand o).isSome = decide ((o.get 0).toNat < 262144) :=
  lowNumber_isSome _ (by decide) (by decide)

theorem ticketOperand_isSome (o : Tbl 4 Word) : (ticketOperand o).isSome = decide ((o.get 0).toNat < 256) :=
  lowNumber_isSome _ (by decide) (by decide)

/-! ### The ranges of the coded operands (R154) -/

theorem indexOf_isSome_iff {n v : Nat} : (indexOf n v).isSome = true ↔ v < n := by
  unfold indexOf
  split <;> simp [*]

/-- The window operand of WIN_STAGE is an index or ANY. -/
theorem stageWindowOf_isSome_iff {v : Nat} : (stageWindowOf v).isSome = true ↔ v < 64 ∨ v = 127 := by
  unfold stageWindowOf
  split
  · simp [*]
  · rw [Option.isSome_map, indexOf_isSome_iff]
    omega

theorem rightsOf_isSome_iff {v : Nat} : (rightsOf v).isSome = true ↔ 1 ≤ v ∧ v ≤ 3 := by
  unfold rightsOf
  split <;> grind

theorem kindOf_isSome_iff {v : Nat} : (kindOf v).isSome = true ↔ v < 2 := by
  unfold kindOf
  split <;> grind

theorem settleOf_isSome_iff {v : Nat} : (settleOf v).isSome = true ↔ v < 4 := by
  unfold settleOf
  split <;> grind

theorem powerOf_isSome_iff {v : Nat} : (powerOf v).isSome = true ↔ v < 4 := by
  unfold powerOf
  split <;> grind

theorem completionOf_isSome_iff {v : Nat} : (completionOf v).isSome = true ↔ v < 7 := by
  unfold completionOf
  split <;> grind

theorem clockOf_isSome_iff {v : Nat} : (clockOf v).isSome = true ↔ v < 2 := by
  unfold clockOf
  split <;> grind

/-- The request operand of WIN_STAGE is an index, NONE, or out of range. -/
theorem stageRequestOf_cases (v : Nat) :
    v = 7 ∧ stageRequestOf v = some none ∨ v < 6 ∧ (∃ q, stageRequestOf v = some (some q)) ∨
      v ≠ 7 ∧ 6 ≤ v ∧ stageRequestOf v = none := by
  unfold stageRequestOf indexOf
  grind

/-! ### Operands of several fields (R154) -/

/-- The common checks of PROFILE_READ are the ranges of its two operands and the unassigned bits of word 0. -/
theorem profileOperands_isSome (o : Tbl 4 Word) : (profileOperands o).isSome = operandsPass .profileRead o := by
  have hfields : (profileOperands o).isSome = true ↔
      field (o.get 0) 0 3 < 8 ∧ field (o.get 0) 8 3 < 7 ∧ within (o.get 0) 0x707 = true := by
    simp only [← indexOf_isSome_iff, Option.isSome_iff_exists, profileOperands, Option.bind_eq_bind,
      Option.bind_eq_some_iff]
    simp
  rw [Bool.eq_iff_iff, hfields, within_iff_gaps [(3, 5), (11, 21)] _ (by decide)]
  simp only [List.forall_mem_cons, List.not_mem_nil, false_implies, implies_true, and_true, field_eq, operandsPass,
    decide_eq_true_eq]
  omega

theorem routeOperands_isSome (o : Tbl 4 Word) : (routeOperands o).isSome = operandsPass .srcRoute o := by
  have hfields : (routeOperands o).isSome = true ↔
      field (o.get 0) 0 5 < 18 ∧ field (o.get 0) 12 2 < 4 ∧ field (o.get 0) 16 3 < 8 ∧
        within (o.get 0) 0x0007311F = true := by
    simp only [← indexOf_isSome_iff, Option.isSome_iff_exists, routeOperands, Option.bind_eq_bind,
      Option.bind_eq_some_iff]
    simp
  rw [Bool.eq_iff_iff, hfields, within_route_iff]
  simp only [field_eq, operandsPass, decide_eq_true_eq]
  omega

/-- The unassigned bits of word 0 of WIN_STAGE are five runs (R154). -/
theorem within_stage_iff (w : Word) :
    within w 0x0013777F = true ↔
      w.toNat / 128 % 2 = 0 ∧ w.toNat / 2048 % 2 = 0 ∧ w.toNat / 32768 % 2 = 0 ∧ w.toNat / 262144 % 4 = 0 ∧
        w.toNat < 2 ^ 21 := by
  rw [within_iff_gaps [(7, 1), (11, 1), (15, 1), (18, 2), (21, 11)] w (by decide)]
  simp only [List.forall_mem_cons, List.not_mem_nil, false_implies, implies_true, and_true, field_eq]
  omega

/-- With a request named, words 2 and 3 of WIN_STAGE are not used and not checked; the request code 6 names none. -/
theorem stageOperands_isSome (o : Tbl 4 Word) : (stageOperands o).isSome = operandsPass .winStage o := by
  have hfields : (stageOperands o).isSome = true ↔
      (stageWindowOf (field (o.get 0) 0 7)).isSome = true ∧ field (o.get 0) 8 3 < 8 ∧
        ∃ request, stageRequestOf (field (o.get 0) 12 3) = some request ∧
          (rightsOf (field (o.get 0) 16 2)).isSome = true ∧ (kindOf (field (o.get 0) 20 1)).isSome = true ∧
          (within (o.get 0) 0x0013777F = true ∧ within (o.get 1) 0x0003FFFF = true) ∧
          ((∃ q, request = some q) ∨ within (o.get 2) 0x0001FFFF = true ∧ within (o.get 3) 0x000FFFFF = true) := by
    simp only [← indexOf_isSome_iff, Option.isSome_iff_exists, stageOperands, Option.bind_eq_bind,
      Option.bind_eq_some_iff]
    simp [Option.isSome_iff_exists]
  rw [Bool.eq_iff_iff, hfields, within_stage_iff, within_low_iff 18 _ (by decide) (by decide),
    within_low_iff 17 _ (by decide) (by decide), within_low_iff 20 _ (by decide) (by decide), stageWindowOf_isSome_iff,
    rightsOf_isSome_iff, kindOf_isSome_iff]
  have hcases := stageRequestOf_cases (field (o.get 0) 12 3)
  simp only [field_eq, operandsPass, decide_eq_true_eq] at hcases ⊢
  rcases hcases with ⟨hcode, hrequest⟩ | ⟨hcode, q, hrequest⟩ | ⟨hcode, hcode', hrequest⟩
  · simp only [hrequest, Option.some.injEq, exists_eq_left', reduceCtorEq, exists_false, false_or]
    omega
  · simp only [hrequest, Option.some.injEq, exists_eq_left', exists_eq', true_or, and_true]
    omega
  · simp only [hrequest, reduceCtorEq, false_and, exists_false, and_false, false_iff]
    omega

/-- The unassigned bits of word 0 of PART_CONFIG are four runs (R154). -/
theorem within_config_iff (w : Word) :
    within w 0x1733 = true ↔
      w.toNat / 4 % 4 = 0 ∧ w.toNat / 64 % 4 = 0 ∧ w.toNat / 2048 % 2 = 0 ∧ w.toNat < 2 ^ 13 := by
  rw [within_iff_gaps [(2, 2), (6, 2), (11, 1), (13, 19)] w (by decide)]
  simp only [List.forall_mem_cons, List.not_mem_nil, false_implies, implies_true, and_true, field_eq]
  omega

/-- The common checks of PART_CONFIG: four coded fields in word 0, the budget in word 1. -/
theorem configOperands_isSome (o : Tbl 4 Word) : (configOperands o).isSome = operandsPass .partConfig o := by
  have hfields : (configOperands o).isSome = true ↔
      field (o.get 0) 0 2 < 4 ∧ field (o.get 0) 4 2 < 4 ∧ field (o.get 0) 8 3 < 7 ∧ field (o.get 0) 12 1 < 2 ∧
        (field (o.get 1) 0 12 ≤ Config.maxBudget ∧ within (o.get 0) 0x1733 = true) ∧ within (o.get 1) 0xFFF = true := by
    rw [← settleOf_isSome_iff, ← powerOf_isSome_iff, ← completionOf_isSome_iff, ← clockOf_isSome_iff]
    simp only [Option.isSome_iff_exists, configOperands, Option.bind_eq_bind, Option.bind_eq_some_iff,
      Option.ite_none_right_eq_some, Bool.and_eq_true, decide_eq_true_eq]
    simp
  rw [Bool.eq_iff_iff, hfields, within_config_iff, within_low_iff 12 _ (by decide) (by decide)]
  simp only [field_eq, Config.maxBudget, operandsPass, decide_eq_true_eq]
  omega

/-! ### The common checks of every command (R132) -/

/-- The taken operands decode: the common checks as the machine makes them. -/
def operandsDecode (c : Command) (o : Tbl 4 Word) : Bool :=
  match c with
  | .nop => true
  | .winStage => (stageOperands o).isSome
  | .winOpen | .winClose | .winRelease | .winRead => (windowOperand o).isSome
  | .winLookup => (pageOperand o).isSome
  | .profileRead => (profileOperands o).isSome
  | .slotRead | .slotAdmit | .slotEject | .slotRecover | .slotClearPosted => (slotOperand o).isSome
  | .srcRoute => (routeOperands o).isSome
  | .srcRead => (sourceOperand o).isSome
  | .ticketRead | .ticketCollect => (ticketOperand o).isSome
  | .partConfig => (configOperands o).isSome
  | .partConfigRead => true

/-- The operands decode exactly when every one is in its range and every unassigned bit is 0. -/
theorem operandsDecode_eq (c : Command) (o : Tbl 4 Word) : operandsDecode c o = operandsPass c o := by
  cases c with
  | nop | partConfigRead => rfl
  | winStage => exact stageOperands_isSome o
  | winOpen | winClose | winRelease | winRead => exact windowOperand_isSome o
  | winLookup => exact pageOperand_isSome o
  | profileRead => exact profileOperands_isSome o
  | slotRead | slotAdmit | slotEject | slotRecover | slotClearPosted => exact slotOperand_isSome o
  | srcRoute => exact routeOperands_isSome o
  | srcRead => exact sourceOperand_isSome o
  | ticketRead | ticketCollect => exact ticketOperand_isSome o
  | partConfig => exact configOperands_isSome o

/-- Operands that do not decode refuse the command. -/
theorem checked_of_isSome_eq_false {α : Type} {operands : Option α} (body : α → Completion)
    (h : operands.isSome = false) : checked operands body = .refuse .badOperand := by
  rw [Option.isSome_eq_false_iff, Option.isNone_iff_eq_none] at h
  rw [h]
  rfl

/-- The common checks stand before everything else a command decides. -/
theorem commandBody_of_not_operandsPass {c : Command} {o : Tbl 4 Word} (h : operandsPass c o = false) (s : State) :
    commandBody c o s = .refuse .badOperand := by
  rw [← operandsDecode_eq] at h
  cases c with
  | nop | partConfigRead => exact nomatch h
  | _ => exact checked_of_isSome_eq_false _ h

/-- A command whose operands fail the common checks completes with BAD_OPERAND and nothing else (R132). -/
theorem exec_completion_of_badOperand {c : Command} {s : State} (h : executing (commandNumber c) s)
    (hbad : operandsPass c s.engine.takenOperands = false) :
    exec (completion c) s = .next (completed .badOperand zeros s) := by
  rw [exec_completion_of_executing h, commandBody_of_not_operandsPass hbad, result_refuse_quiet]

/-- The code words of the catalogue are the nineteen numbers (R154). -/
theorem definedCode_iff (w : Word) : definedCode w = true ↔ w.toNat ∈ definedCodes := by
  have hcodes : definedCodes = Command.all.map fun c => c.code.toNat := by decide
  simp [definedCode, hcodes, ← BitVec.toNat_inj]

/-! ### The result codes of the commands after the common checks (R133) -/

section

variable (s : State) (w : WinIx) (n : SlotIx) (id : Nat)

theorem deferred_code_mem (op : TicketOp) (start : Nat → State → State) :
    (deferred s op start).code ∈ [ResultCode.accepted, .noTicket] := by
  unfold deferred
  split <;> simp

theorem openWindow_code_mem : (openWindow s w).code ∈ [ResultCode.ok, .slotState, .windowState] := by
  unfold openWindow
  split
  · split <;> simp
  · simp

theorem closeWindow_code_mem :
    (closeWindow s w).code ∈ [ResultCode.accepted, .noTicket, .targetBusy, .windowState] := by
  unfold closeWindow
  split
  · simp
  · split
    · exact List.mem_append_left [.targetBusy, .windowState] (deferred_code_mem s _ _)
    · simp

theorem releaseWindow_code_mem : (releaseWindow s w).code ∈ [ResultCode.ok, .windowState] := by
  unfold releaseWindow
  split <;> simp

theorem admitSlot_code_mem :
    (admitSlot s n).code ∈ [ResultCode.accepted, .noTicket, .targetBusy, .slotState, .noPower] := by
  unfold admitSlot
  split_ifs
  · simp
  · simp
  · simp
  · exact List.mem_append_left [.targetBusy, .slotState, .noPower] (deferred_code_mem s _ _)

theorem ejectSlot_code_mem : (ejectSlot s n).code ∈ [ResultCode.accepted, .noTicket, .targetBusy, .slotState] := by
  unfold ejectSlot
  split_ifs
  · simp
  · simp
  · exact List.mem_append_left [.targetBusy, .slotState] (deferred_code_mem s _ _)

theorem recoverSlot_code_mem : (recoverSlot s n).code ∈ [ResultCode.accepted, .noTicket, .targetBusy, .slotState] := by
  unfold recoverSlot
  split_ifs
  · simp
  · exact List.mem_append_left [.targetBusy, .slotState] (deferred_code_mem s _ _)
  · simp

theorem readTicket_code_mem : (readTicket s id).code ∈ [ResultCode.ok, .noSuchTicket] := by
  unfold readTicket
  split
  · simp
  · split <;> simp

theorem collectTicket_code_mem : (collectTicket s id).code ∈ [ResultCode.ok, .noSuchTicket, .ticketOpen] := by
  unfold collectTicket
  split
  · simp
  · split <;> simp

theorem configurePart_code_mem (c : PartConfig) : (configurePart s c).code ∈ [ResultCode.ok, .budgetInUse] := by
  unfold configurePart
  split <;> simp

end

/-- A command whose operands decode completes with a code of its own checks. -/
theorem checked_code_ne {α : Type} {operands : Option α} {body : α → Completion} {codes : List ResultCode}
    {code : ResultCode} (hsome : operands.isSome = true) (hmem : ∀ x, (body x).code ∈ codes) (hnot : code ∉ codes) :
    (checked operands body).code ≠ code := by
  obtain ⟨x, rfl⟩ := Option.isSome_iff_exists.1 hsome
  exact ne_of_mem_of_not_mem (hmem x) hnot

/-- After the common checks only WIN_STAGE and PROFILE_READ have a check that refuses with BAD_OPERAND. -/
theorem eq_winStage_or_profileRead_of_badOperand {c : Command} {o : Tbl 4 Word} {s : State}
    (hpass : operandsPass c o = true) (hbad : (commandBody c o s).code = .badOperand) :
    c = .winStage ∨ c = .profileRead := by
  rw [← operandsDecode_eq] at hpass
  cases c with
  | winStage => exact .inl rfl
  | profileRead => exact .inr rfl
  | nop | partConfigRead => exact nomatch hbad
  | winRead | winLookup | slotRead | slotClearPosted | srcRoute | srcRead =>
    exact absurd hbad (checked_code_ne hpass (fun _ => List.mem_singleton_self ResultCode.ok) (by decide))
  | winOpen => exact absurd hbad (checked_code_ne hpass (openWindow_code_mem s) (by decide))
  | winClose => exact absurd hbad (checked_code_ne hpass (closeWindow_code_mem s) (by decide))
  | winRelease => exact absurd hbad (checked_code_ne hpass (releaseWindow_code_mem s) (by decide))
  | slotAdmit => exact absurd hbad (checked_code_ne hpass (admitSlot_code_mem s) (by decide))
  | slotEject => exact absurd hbad (checked_code_ne hpass (ejectSlot_code_mem s) (by decide))
  | slotRecover => exact absurd hbad (checked_code_ne hpass (recoverSlot_code_mem s) (by decide))
  | ticketRead => exact absurd hbad (checked_code_ne hpass (readTicket_code_mem s) (by decide))
  | ticketCollect => exact absurd hbad (checked_code_ne hpass (collectTicket_code_mem s) (by decide))
  | partConfig => exact absurd hbad (checked_code_ne hpass (configurePart_code_mem s) (by decide))

/-! ### PART_CONFIG and PART_CONFIG_READ (R135, R136, R137) -/

@[simp] theorem settleOf_settleNumber (x : SettleTime) : settleOf (settleNumber x) = some x := by
  cases x <;> rfl

@[simp] theorem powerOf_powerNumber (x : PowerTimeout) : powerOf (powerNumber x) = some x := by
  cases x <;> rfl

@[simp] theorem completionOf_completionNumber (x : CompletionTimeout) :
    completionOf (completionNumber x) = some x := by
  cases x <;> rfl

@[simp] theorem clockOf_clockNumber (x : IdentClock) : clockOf (clockNumber x) = some x := by
  cases x <;> rfl

@[simp] theorem settleCode_eq (x : SettleTime) : settleCode x = settleNumber x := by
  cases x <;> rfl

@[simp] theorem powerCode_eq (x : PowerTimeout) : powerCode x = powerNumber x := by
  cases x <;> rfl

@[simp] theorem completionCode_eq (x : CompletionTimeout) : completionCode x = completionNumber x := by
  cases x <;> rfl

@[simp] theorem clockCode_eq (x : IdentClock) : clockCode x = clockNumber x := by
  cases x <;> rfl

/-- Word 0 of PART_CONFIG and of PART_CONFIG_READ, put together from the coded fields (R154, R155). -/
def PartConfig.number (c : PartConfig) : Nat :=
  settleNumber c.settle + 16 * powerNumber c.power + 256 * completionNumber c.completion + 4096 * clockNumber c.clock

/-- The code of each field fits in its place. -/
theorem PartConfig.bounds (c : PartConfig) :
    settleNumber c.settle < 4 ∧ powerNumber c.power < 4 ∧ completionNumber c.completion < 7 ∧
      clockNumber c.clock < 2 := by
  rw [← settleOf_isSome_iff, ← powerOf_isSome_iff, ← completionOf_isSome_iff, ← clockOf_isSome_iff]
  simp

/-- The five fields a PART_CONFIG takes are those its words are put together from. -/
theorem configOperands_of_operand {s : State} {c : PartConfig} (h0 : operand s 0 c.number)
    (h1 : operand s 1 c.budget) (hbudget : c.budget ≤ 4000) : configOperands s.engine.takenOperands = some c := by
  have hbounds := c.bounds
  have hword : (s.engine.takenOperands.get 0).toNat = c.number := by
    rw [h0, toNat_ofNat_word (by unfold PartConfig.number; omega)]
  have hbudgetWord : (s.engine.takenOperands.get 1).toNat = c.budget := by rw [h1, toNat_ofNat_word (by omega)]
  obtain ⟨hsettle, hpower, hcompletion, hclock⟩ :
      field (s.engine.takenOperands.get 0) 0 2 = settleNumber c.settle ∧
        field (s.engine.takenOperands.get 0) 4 2 = powerNumber c.power ∧
        field (s.engine.takenOperands.get 0) 8 3 = completionNumber c.completion ∧
        field (s.engine.takenOperands.get 0) 12 1 = clockNumber c.clock := by
    simp only [field_eq, hword, PartConfig.number]
    omega
  have hbudgetField : field (s.engine.takenOperands.get 1) 0 12 = c.budget := by
    rw [field_eq, hbudgetWord]
    omega
  have hin0 : within (s.engine.takenOperands.get 0) 0x1733 = true := by
    rw [within_config_iff, hword, PartConfig.number]
    omega
  have hin1 : within (s.engine.takenOperands.get 1) 0xFFF = true := by
    rw [within_low_iff 12 _ (by decide) (by decide), hbudgetWord]
    omega
  simpa [configOperands, hsettle, hpower, hcompletion, hclock, hbudgetField] using ⟨hbudget, hin0, hin1⟩

/-- A PART_CONFIG whose operands pass the common checks goes on to the check of the budget (R136). -/
theorem exec_partConfig {s : State} {c : PartConfig} (h : executing 0x40 s) (h0 : operand s 0 c.number)
    (h1 : operand s 1 c.budget) (hbudget : c.budget ≤ 4000) :
    exec .partConfig s = .next ((configurePart s.quiet c).result s.quiet) :=
  taken_checked (c := .partConfig) configurePart h (configOperands_of_operand h0 h1 hbudget)

/-- A budget below the units committed is refused (R56). -/
theorem configurePart_of_budgetInUse {s : State} {c : PartConfig} (h : c.budget < s.committed) :
    configurePart s c = .refuse .budgetInUse :=
  if_pos h

theorem configurePart_of_budget {s : State} {c : PartConfig} (h : s.committed ≤ c.budget) :
    configurePart s c = .finish .ok noWords { s with config := c } :=
  if_neg (Nat.not_lt.2 h)

/-- A command that replaces the configuration record completes with that record replaced and nothing else. -/
theorem result_finish_config (s : State) (code : ResultCode) (results : Tbl 4 Word) (c : PartConfig) :
    (Completion.finish code results { s.quiet with config := c }).result s.quiet =
      completed code results { s with config := c } := rfl

/-- PART_CONFIG_READ completes with the words of the record and changes nothing else (R137). -/
theorem exec_partConfigRead {s : State} (h : executing 0x41 s) :
    exec .partConfigRead s = .next (completed .ok (configWords s.config) s) :=
  exec_completion_of_executing (c := .partConfigRead) h

/-- The result words of PART_CONFIG_READ: each field at its place in PART_CONFIG (R155). -/
theorem reads_configWords {c : PartConfig} (hbudget : c.budget ≤ 4000) :
    reads (configWords c) 0 c.number ∧ reads (configWords c) 1 c.budget ∧ reads (configWords c) 2 0 ∧
      reads (configWords c) 3 0 := by
  obtain ⟨hsettle, hpower, hcompletion, hclock⟩ := c.bounds
  have hsettlePlace : Packs (place (settleNumber c.settle) 0 2) 2 (settleNumber c.settle) :=
    Packs.place_zero hsettle (by decide)
  have hpowerPlace := hsettlePlace.or_place (lo := 4) (len := 2) (by decide) hpower (by decide)
  have hcompletionPlace := hpowerPlace.or_place (lo := 8) (len := 3) (by decide) (hcompletion.trans (by decide))
    (by decide)
  have hclockPlace := hcompletionPlace.or_place (lo := 12) (len := 1) (by decide) hclock (by decide)
  have hbudgetPlace : Packs (place c.budget 0 12) 12 c.budget := Packs.place_zero (by omega) (by decide)
  rw [configWords, settleCode_eq, powerCode_eq, completionCode_eq, clockCode_eq]
  exact ⟨hclockPlace.1, hbudgetPlace.1, rfl, rfl⟩

/-! ### Reads and writes of a control block word (R148, R151) -/

/-- A claimed request that the control block answers, its effect apart from the entry of the request, leaves the
response on the state of that effect. -/
theorem State.hostRequest_of_answer {s t : State} {r : HostRequest} {offset : Nat} {code : RespCode}
    {data : Option Word} (hclaim : claiming s r.tag) (hin : inControlBlock s r.addr offset)
    (hanswer : (s.quiet.putHostTag r.tag true).controlAccess r offset =
      (t.quiet.putHostTag r.tag true).answer r.tag code data)
    (hstill : t.hostTable.get r.tag = false) : s.quiet.hostRequest r = responding r.tag code data t := by
  obtain ⟨-, hhost, hfree⟩ := hclaim
  obtain ⟨haddr, hoffset⟩ := hin
  rw [State.hostRequest_of_controlBlock (s := s.quiet) hhost hfree haddr hoffset, hanswer, answer_claimed hstill]

/-- A 4-byte read of a word that allows it is answered OK with the word's value in the step. -/
theorem State.controlAccess_of_read {s t : State} {tag : HostTag} {addr data v : Word} {offset : Nat} {b : BlockWord}
    (hword : accessedWord .four offset = some b) (hread : s.readWord b = some (v, t)) :
    s.controlAccess { tag, op := .read, addr, size := .four, data } offset = t.answer tag .ok (some v) := by
  simp only [controlAccess, hword, hread]

/-- A write that reaches no word that allows it is answered DENIED. -/
theorem State.controlAccess_of_deniedWrite {s : State} {tag : HostTag} {addr data : Word} {size : Size} {offset : Nat}
    (h : ∀ b, accessedWord size offset = some b → s.writeWord data b = none) :
    s.controlAccess { tag, op := .write, addr, size, data } offset = s.answer tag .denied none := by
  cases hword : accessedWord size offset with
  | none => simp only [controlAccess, hword]
  | some b => simp only [controlAccess, hword, h b hword]

/-- An access of any size reaches the word of a 4-byte access or none. -/
theorem accessedWord_four_of_eq_some {size : Size} {offset : Nat} {b : BlockWord}
    (h : accessedWord size offset = some b) : accessedWord .four offset = some b := by
  rw [accessedWord, Option.ite_none_right_eq_some] at h
  obtain ⟨⟨rfl, halign⟩, hword⟩ := h
  rw [accessedWord, if_pos ⟨rfl, halign⟩, hword]

theorem accessedWord_result (k : Fin 4) : accessedWord .four (0x30 + 4 * k.val) = some (.result k) := by
  revert k
  decide

/-- A claimed 4-byte read of a word that allows it returns the word's value and leaves what the read leaves. -/
theorem exec_commandStatusRead {s t : State} {tag : HostTag} {addr v : Word} {offset : Nat} {b : BlockWord}
    (hclaim : claiming s tag) (hin : inControlBlock s addr offset) (hword : accessedWord .four offset = some b)
    (hread : (s.quiet.putHostTag tag true).readWord b = some (v, t.quiet.putHostTag tag true))
    (hstill : t.hostTable.get tag = false) :
    exec (.commandStatusRead tag addr .four) s = .next (responding tag .ok (some v) t) := by
  have ⟨hreset, _, _⟩ := hclaim
  calc exec (.commandStatusRead tag addr .four) s
    _ = .next (s.quiet.hostRequest { tag, op := .read, addr, size := .four, data := 0 }) :=
      taken_of_running (·.hostRequest { tag, op := .read, addr, size := .four, data := 0 }) hreset
    _ = _ := by rw [State.hostRequest_of_answer hclaim hin (State.controlAccess_of_read hword hread) hstill]

/-- A claimed write of a word that allows none is answered DENIED and has no effect. -/
theorem exec_controlBlockWrite_of_denied {s : State} {tag : HostTag} {addr data : Word} {size : Size} {offset : Nat}
    {b : BlockWord} (hclaim : claiming s tag) (hin : inControlBlock s addr offset)
    (hword : accessedWord .four offset = some b) (hwrite : (s.quiet.putHostTag tag true).writeWord data b = none) :
    exec (.controlBlockWrite tag addr size data) s = .next (responding tag .denied none s) := by
  have hdenied : ∀ b', accessedWord size offset = some b' → (s.quiet.putHostTag tag true).writeWord data b' = none := by
    intro b' hb'
    obtain rfl : b' = b := Option.some.inj ((accessedWord_four_of_eq_some hb').symm.trans hword)
    exact hwrite
  have ⟨hreset, _, hfree⟩ := hclaim
  calc exec (.controlBlockWrite tag addr size data) s
    _ = .next (s.quiet.hostRequest { tag, op := .write, addr, size, data }) :=
      taken_of_running (·.hostRequest { tag, op := .write, addr, size, data }) hreset
    _ = _ := by
      rw [State.hostRequest_of_answer hclaim hin (State.controlAccess_of_deniedWrite hdenied) hfree]

/-! ### The command status word (R130, R156) -/

/-- State and result code as the status word shows them. -/
theorem EngineState.number_eq (e : EngineState) : engineNumber e = e.code + 256 * e.result := by
  cases e with
  | idle | executing => rfl
  | finished code => cases code <;> rfl

theorem EngineState.code_lt (e : EngineState) : e.code < 4 := by
  cases e <;> simp [EngineState.code]

theorem EngineState.result_lt (e : EngineState) : e.result < 32 := by
  cases e with
  | idle | executing => decide
  | finished code => cases code <;> decide

theorem Engine.statusWord_toNat (e : Engine) :
    e.statusWord.toNat = engineNumber e.state + 65536 * bit e.overrun := by
  have hstate : Packs (place e.state.code 0 2) 2 e.state.code := Packs.place_zero e.state.code_lt (by decide)
  have hresult := hstate.or_place (lo := 8) (len := 5) (by decide) e.state.result_lt (by decide)
  rw [EngineState.number_eq]
  exact (hresult.or_flag (k := 16) e.overrun (by decide) (by decide)).1

/-! ### The command code word while EXECUTING (R128) -/

/-- A claimed code write has its effect on the engine and is answered OK. -/
theorem exec_cmdOverrun {s t : State} {tag : HostTag} {code : Word} (hclaim : claiming s tag)
    (hwrite : (s.quiet.putHostTag tag true).writeCode code = t.quiet.putHostTag tag true)
    (hstill : t.hostTable.get tag = false) :
    exec (.cmdOverrun tag code) s = .next (responding tag .ok none t) := by
  have hin : inControlBlock s (s.quiet.blockAddress codeOffset) codeOffset :=
    ⟨s.quiet.blockAddress_toNat (by decide), by decide⟩
  have hcontrol : (s.quiet.putHostTag tag true).controlAccess (s.quiet.writeRequest tag codeOffset code) codeOffset =
      (t.quiet.putHostTag tag true).answer tag .ok none :=
    State.controlAccess_of_write (b := .commandCode) rfl (congrArg some hwrite)
  have ⟨hreset, _, _⟩ := hclaim
  calc exec (.cmdOverrun tag code) s
    _ = .next (s.quiet.hostRequest (s.quiet.writeRequest tag codeOffset code)) :=
      taken_of_running (fun s => s.hostRequest (s.writeRequest tag codeOffset code)) hreset
    _ = _ := by
      rw [State.hostRequest_of_answer (r := s.quiet.writeRequest tag codeOffset code) hclaim hin hcontrol hstill]
      rfl

end Sys2Proof.Machine

/-! ### The obligations -/

namespace Sys2Proof.CommandEngine

open Sys2Proof.Machine Sys2Proof.Expected

/-- Settles O22: an undefined code, operands that do not decode, and the codes the commands' own checks give. -/
theorem commonChecksRefuse : Obligations.CommonChecksRefuse := by
  refine ⟨?_, ?_, ?_⟩
  · intro s hreset hexec hcode
    have hundefined : definedCode s.quiet.engine.takenCode = false :=
      Bool.eq_false_iff.2 fun hdefined => hcode ((definedCode_iff _).1 hdefined)
    calc exec .badCommand s
      _ = .next s.quiet.completeUndefined := taken_of_running _ hreset
      _ = _ := by
        rw [State.completeUndefined, if_pos ⟨hexec, hundefined⟩]
        rfl
  · intro c s hexec hbad
    exact exec_completion_of_badOperand hexec hbad
  · intro c s t hexec hpass ht hbad
    rw [exec_completion_of_executing hexec, Host.Outcome.next.injEq] at ht
    rw [← ht, Completion.result_state, EngineState.finished.injEq] at hbad
    exact eq_winStage_or_profileRead_of_badOperand hpass hbad

/-- Settles O42: the five fields are decoded from their places, checked against the power account, and read back. -/
theorem partConfigFieldsWrittenAndRead : Obligations.PartConfigFieldsWrittenAndRead := by
  intro s
  constructor
  · intro hexec
    constructor
    · intro hbad
      exact exec_completion_of_badOperand (c := .partConfig) hexec hbad
    intro c hbudget h0 h1
    have hrun := exec_partConfig hexec h0 h1 hbudget
    constructor
    · intro hbelow
      rw [hrun, configurePart_of_budgetInUse (s := s.quiet) hbelow, result_refuse_quiet]
    · intro hcommitted
      rw [hrun, configurePart_of_budget (s := s.quiet) hcommitted]
      exact congrArg _ (result_finish_config s .ok noWords c)
  · intro hexec hbudget
    exact ⟨configWords s.config, exec_partConfigRead hexec, reads_configWords hbudget⟩

/-- Settles O15: the status word is read as it stands and its flag cleared, and the words of the two kinds allow no
write. -/
theorem statusReadClearsOverrun : Obligations.StatusReadClearsOverrun := by
  intro s tag addr hclaim
  have ⟨_, _, hfree⟩ := hclaim
  refine ⟨?_, ?_, ?_⟩
  · intro hin
    exact ⟨s.engine.statusWord, exec_commandStatusRead (b := .commandStatus) hclaim hin rfl rfl hfree,
      s.engine.statusWord_toNat⟩
  · intro k hin
    exact exec_commandStatusRead hclaim hin (accessedWord_result k) rfl hfree
  · rintro data size offset (rfl | ⟨k, rfl⟩) hin
    · exact exec_controlBlockWrite_of_denied (b := .commandStatus) hclaim hin rfl rfl
    · exact exec_controlBlockWrite_of_denied hclaim hin (accessedWord_result k) rfl

/-- Settles O18: the write of the code word takes the branch of an overrun. -/
theorem codeWriteOverrun : Obligations.CodeWriteOverrun := by
  intro s tag code hclaim hexec
  obtain ⟨hoverrun, -⟩ := (s.quiet.putHostTag tag true).writeCode_eq code
  have ⟨_, _, hfree⟩ := hclaim
  exact exec_cmdOverrun hclaim (hoverrun hexec) hfree

end Sys2Proof.CommandEngine

/-! PROOFS. Every command as one effect on the state, and the resets. -/

namespace Sys2Proof.Machine

-- One proof at a time: side by side they take more threads than the check's memory limit allows.
set_option Elab.async false

open Sys2Proof.Expected

/-! ### Every command as one effect -/

/-- The input level a command moves, which follows its event also while part reset is in force (R158). -/
def State.moveLevel (s : State) : Instr → State
  | .hostPortReset => { s with hostReset := true }
  | .hostPortResetRelease => { s with hostReset := false }
  | .presenceAsserted n => s.putPresence n true
  | .presenceDeasserted n => s.putPresence n false
  | .powerGoodAsserted n => s.putPowerGood n true
  | .powerGoodLoss n => s.putPowerGood n false
  | _ => s

/-- What a command does out of part reset once its level has moved and the outputs are cleared; the two commands of the
part reset itself have none. -/
def State.effect (s : State) : Instr → State
  | .apertureAccess tag op addr size data => s.hostRequest { tag, op, addr, size, data }
  | .controlBlockWrite tag addr size data => s.hostRequest { tag, op := .write, addr, size, data }
  | .commandStatusRead tag addr size => s.hostRequest { tag, op := .read, addr, size, data := 0 }
  | .ack tag line => s.hostRequest (s.readRequest tag (ackOffset line))
  | .eos tag line value => s.hostRequest (s.writeRequest tag (eosOffset line) value)
  | .cmdOverrun tag code => s.hostRequest (s.writeRequest tag codeOffset code)
  | .commandIssue tag code => s.hostRequest (s.writeRequest tag codeOffset code)
  | .nop => runCommand .nop (commandBody .nop) s
  | .winStage => runCommand .winStage (commandBody .winStage) s
  | .winOpen => runCommand .winOpen (commandBody .winOpen) s
  | .winClose => runCommand .winClose (commandBody .winClose) s
  | .winRelease => runCommand .winRelease (commandBody .winRelease) s
  | .winRead => runCommand .winRead (commandBody .winRead) s
  | .winLookup => runCommand .winLookup (commandBody .winLookup) s
  | .slotRead => runCommand .slotRead (commandBody .slotRead) s
  | .profileRead => runCommand .profileRead (commandBody .profileRead) s
  | .slotAdmit => runCommand .slotAdmit (commandBody .slotAdmit) s
  | .slotEject => runCommand .slotEject (commandBody .slotEject) s
  | .slotRecover => runCommand .slotRecover (commandBody .slotRecover) s
  | .slotClearPosted => runCommand .slotClearPosted (commandBody .slotClearPosted) s
  | .srcRoute => runCommand .srcRoute (commandBody .srcRoute) s
  | .srcRead => runCommand .srcRead (commandBody .srcRead) s
  | .ticketRead => runCommand .ticketRead (commandBody .ticketRead) s
  | .ticketCollect => runCommand .ticketCollect (commandBody .ticketCollect) s
  | .partConfig => runCommand .partConfig (commandBody .partConfig) s
  | .partConfigRead => runCommand .partConfigRead (commandBody .partConfigRead) s
  | .badCommand => s.completeUndefined
  | .partReset => s
  | .partResetEnd _ _ => s
  | .hostPortReset => s.hostPortResets
  | .hostPortResetRelease => s
  | .presenceAsserted n => s.presenceRises n
  | .presenceDeasserted n => s.presenceFalls n
  | .settleTimerExpiry n => s.settled n
  | .removalFilterExpiry n place => s.removalExpires n place
  | .powerGoodAsserted n => s.powerGoodRises n
  | .powerGoodLoss n => s.powerGoodFalls n
  | .qualificationExpiry n => s.qualified n
  | .powerTimerExpiry n => s.powerTimesOut n
  | .trainingTimerExpiry n => s.trainingTimesOut n
  | .ready n count => s.takeReady n count.toNat
  | .sendRequest n => s.sendHead n
  | .completion n k status data => s.takeCompletion n k status data
  | .completionTimerExpiry n k => s.requestTimesOut n k
  | .quarantineTimerExpiry n k => s.quarantineEnds n k
  | .attention n causes => s.takeAttention n causes
  | .ejectRequest n => s.takeEjectRequest n
  | .quiesced n => s.takeQuiesced n
  | .quiesceTimerExpiry n => s.quiesceTimesOut n
  | .unknownPacketKind n => s.takeUnknown n
  | .packetCheckFailure _ => s
  | .linkLoss n => s.losesLock n
  | .busClear pulses => s.busCleared pulses
  | .headerTransaction a b c d => s.headerRead (a :: [b, c, d].reduceOption)
  | .bodyTransaction run => s.bodyRead run
  | .attemptFails => s.missingAcknowledge
  | .retryTimerExpiry => s.retry
  | .abandonedByteEnd => s.abandonedEnd

/-- The command is none of the two of the part reset. -/
def notReset : Instr → Prop
  | .partReset => False
  | .partResetEnd _ _ => False
  | _ => True

/-- Every command but the two of the part reset moves its level and is then taken with its effect. -/
theorem exec_eq_taken {c : Instr} (h : notReset c) (s : State) :
    exec c s = taken (fun s => s.effect c) (s.moveLevel c) := by
  cases c with
  | partReset | partResetEnd => exact h.elim
  | _ => rfl

@[simp] theorem State.moveLevel_partReset (s : State) (c : Instr) : (s.moveLevel c).partReset = s.partReset := by
  cases c <;> rfl

/-- Out of part reset a command leaves its effect on the state with its level moved and the outputs cleared. -/
theorem exec_of_running {c : Instr} (h : notReset c) {s : State} (hrun : s.partReset = false) :
    exec c s = .next ((s.moveLevel c).quiet.effect c) := by
  rw [exec_eq_taken h, taken_of_running _ ((s.moveLevel_partReset c).trans hrun)]

/-- In part reset a command moves its level, and does nothing else (R158). -/
theorem exec_of_reset {c : Instr} (h : notReset c) {s : State} (hreset : s.partReset = true) :
    exec c s = .next (s.moveLevel c).quiet := by
  rw [exec_eq_taken h, taken_of_reset _ ((s.moveLevel_partReset c).trans hreset)]

/-- A level's event moves no record but its level. -/
theorem State.moveLevel_eq (s : State) (c : Instr) :
    s.moveLevel c =
      { s with
        hostReset := (s.moveLevel c).hostReset
        presence := (s.moveLevel c).presence
        powerGood := (s.moveLevel c).powerGood } := by
  cases c <;> rfl

/-! ### The records at their part reset values -/

/-- A link at its part reset value has no work. -/
theorem linkReset_records : Link.reset.state = .down ∧ Link.reset.queue = [] ∧ Link.reset.trainingTimer = none ∧
    ∀ k, Link.reset.tags.get k = .free :=
  ⟨rfl, rfl, rfl, Tbl.get_fill _⟩

/-- An engine at its part reset value holds 0 in every word. -/
theorem engineReset_records : Engine.reset.state = .idle ∧ Engine.reset.overrun = false ∧ Engine.reset.takenCode = 0 ∧
    ∀ k, Engine.reset.operands.get k = 0 ∧ Engine.reset.takenOperands.get k = 0 ∧ Engine.reset.results.get k = 0 :=
  ⟨rfl, rfl, rfl, fun k => ⟨Tbl.get_fill _ k, Tbl.get_fill _ k, Tbl.get_fill _ k⟩⟩

/-- A DOWN link whose engine sends nothing in the step transmits nothing. -/
theorem State.transmits_of_down {s : State} {n : SlotIx} (hout : s.out.packets.get n = none)
    (hdown : (s.links.get n).state = .down) : s.transmits n = none := by
  simp only [State.transmits, hout, hdown, reduceCtorEq, if_false]

theorem settleMicros_eq (x : SettleTime) : Config.settleMicros x = settleDuration x := by
  cases x <;> rfl

end Sys2Proof.Machine

/-! ### The obligations -/

namespace Sys2Proof.PartReset

-- One proof at a time: side by side they take more threads than the check's memory limit allows.
set_option Elab.async false

open Sys2Proof.Machine Sys2Proof.Expected

/-- Settles O1: both cases are the two branches of the step. -/
theorem stepTakesFrontCommand : Obligations.StepTakesFrontCommand := by
  refine ⟨fun s c rest => rfl, fun s hempty => ?_⟩
  rw [step, hempty]

/-- Settles O2: the state after reset passes the check of the invariant. -/
theorem resetStateIsSafe : Obligations.ResetStateIsSafe := State.safeCheck_sound (by decide)

/-- Settles O7: every record of the state after PART_RESET is that of the state after reset. -/
theorem partResetHoldsRecords : Obligations.PartResetHoldsRecords := by
  refine ⟨fun s => ?_, fun s c h hreset hend => ?_⟩
  rotate_left
  · have hc : notReset c := by
      cases c with
      | partReset => exact absurd rfl hreset
      | partResetEnd a b => exact absurd rfl (hend a b)
      | _ => trivial
    refine ⟨_, exec_of_reset hc h, ?_⟩
    exact congrArg State.quiet (s.moveLevel_eq c)
  have hlinks : ∀ n, State.reset.links.get n = Link.reset := Tbl.get_fill Link.reset
  refine ⟨_, rfl, rfl, Tbl.get_fill _, Tbl.get_fill Slot.reset, fun n => ?_, fun n => ?_, rfl, ⟨rfl, rfl, rfl⟩,
    engineReset_records, rfl, Tbl.get_fill Ticket.reset, Tbl.get_fill _, rfl, rfl, rfl, rfl, rfl, rfl, rfl⟩
  · change (State.reset.links.get n).state = .down ∧ _
    rw [hlinks n]
    exact linkReset_records
  · exact State.transmits_of_down (Tbl.get_fill none n) (congrArg Link.state (hlinks n))

/-- Settles O8: each slot record is chosen by its presence level, and nothing else is replaced. -/
theorem partResetEndSamplesInputs : Obligations.PartResetEndSamplesInputs := by
  intro s apsel cbsel hreset
  refine ⟨s.quiet.partResetEnds apsel cbsel, ?_, fun n => ?_, rfl⟩
  · exact congrArg _ (if_pos hreset)
  · simp only [State.partResetEnds, Tbl.get_each, State.quiet_presence, State.quiet_slots, State.quiet_config,
      Slot.settle, settleMicros_eq]

end Sys2Proof.PartReset

/-! PROOFS. Host requests (chapters 2, 6, 7 and 9): claims, the accepted access, the words of the control block. -/

namespace Sys2Proof.Machine

-- One proof at a time: side by side they take more threads than the check's memory limit allows.
set_option Elab.async false

open Sys2Proof.Expected

/-! ### The claim of a request (R28, R148, R150, R153) -/

/-- The row of a host request goes through the Host Port with its host tag and its address. -/
theorem exec_of_requestOf {s : State} {c : Instr} {tag : HostTag} {addr : Word}
    (hrequest : requestOf s c = some (tag, addr)) (hrun : s.partReset = false) :
    ∃ r : HostRequest, r.tag = tag ∧ r.addr = addr ∧ exec c s = .next (s.quiet.hostRequest r) := by
  have hc : notReset c := by
    cases c with
    | partReset | partResetEnd => exact nomatch hrequest
    | _ => trivial
  rw [exec_of_running hc hrun]
  cases c with
  | apertureAccess | controlBlockWrite | commandStatusRead | ack | eos | cmdOverrun | commandIssue =>
    obtain ⟨rfl, rfl⟩ := Prod.mk.inj (Option.some.inj hrequest)
    exact ⟨_, rfl, rfl, rfl⟩
  | _ => exact nomatch hrequest

/-- An address at no offset of the two ranges is not claimed. -/
theorem State.target_eq_none {s : State} {addr : Word}
    (h : ∀ offset, ¬inAperture s addr offset ∧ ¬inControlBlock s addr offset) : s.target addr = none := by
  have haperture : ¬(s.apertureBase ≤ addr.toNat ∧ addr.toNat ≤ s.apertureBase + 0x3FFFFFFF) := fun ⟨hlow, hhigh⟩ =>
    (h (addr.toNat - s.apertureBase)).1 ⟨(Nat.add_sub_cancel' hlow).symm, by omega⟩
  have hcontrol : ¬(s.controlBase ≤ addr.toNat ∧ addr.toNat ≤ s.controlBase + 0xFF) := fun ⟨hlow, hhigh⟩ =>
    (h (addr.toNat - s.controlBase)).2 ⟨(Nat.add_sub_cancel' hlow).symm, by omega⟩
  rw [State.target, if_neg haperture, if_neg hcontrol]

/-- An address of either range is claimed. -/
theorem State.target_of_claimed {s : State} {addr : Word} {offset : Nat}
    (h : inAperture s addr offset ∨ inControlBlock s addr offset) : ∃ t, s.target addr = some t := by
  rcases h with ⟨haddr, hoffset⟩ | ⟨haddr, hoffset⟩
  · exact ⟨_, s.target_aperture addr offset haddr hoffset⟩
  · exact ⟨_, s.target_controlBlock addr offset haddr hoffset⟩

/-! ### Acceptance (R34, R35, R37) -/

/-- The byte on lane `k`, as the word shifted to its lowest lane (log 9). -/
theorem laneByte_eq (w : Word) (k : Nat) : laneByte w k = (w >>> (8 * k)).setWidth 8 := by
  apply BitVec.eq_of_toNat_eq
  rw [laneByte, BitVec.extractLsb'_toNat, BitVec.toNat_setWidth, BitVec.toNat_ushiftRight]

/-- The lane bytes of a request, each cut from the data word at its place. -/
theorem laneBytes_eq (addr : Word) (size : Size) (data : Word) :
    laneBytes addr size data =
      (List.range (bytes size)).map fun i => (data >>> (8 * (addr.toNat % 4 + i))).setWidth 8 := by
  simp only [laneBytes, sizeBytes_eq_bytes, laneByte_eq]

/-- The entry of an accepted access, its fields written out. -/
theorem acceptedEntry_eq (w : WinIx) (m : Mapping) (tag : HostTag) (op : Op) (addr : Word) (size : Size) (data : Word)
    (offset : Nat) :
    acceptedEntry w m { tag, op, addr, size, data } offset =
      { window := w
        op
        addr := BitVec.ofNat 32 (m.moduleBase * 4096 + offset - m.base * 4096)
        size
        data := if op = .write then
            (List.range (bytes size)).map fun i => (data >>> (8 * (addr.toNat % 4 + i))).setWidth 8
          else []
        hostTag := if m.kind == .mem && op == .write then none else some tag } := by
  rw [← laneBytes_eq]
  cases op <;> rfl

/-- Acceptance of a claimed request: a posted write is answered at once and leaves its tag free, any other access leaves
its tag in flight. -/
theorem State.accept_claimed (s : State) (w : WinIx) (m : Mapping) (refs : Nat) (r : HostRequest) (offset : Nat) :
    (s.quiet.putHostTag r.tag true).accept w m refs r offset =
      if posted m.kind r.op then
        responding r.tag .ok none
          { s with
            windows := s.windows.put w (.opened m (refs + 1))
            links := s.links.put m.slot
              { s.links.get m.slot with queue := (s.links.get m.slot).queue ++ [acceptedEntry w m r offset] }
            hostTable := s.hostTable.put r.tag false }
      else
        silent
          { s with
            windows := s.windows.put w (.opened m (refs + 1))
            links := s.links.put m.slot
              { s.links.get m.slot with queue := (s.links.get m.slot).queue ++ [acceptedEntry w m r offset] }
            hostTable := s.hostTable.put r.tag true } := by
  rw [State.accept]
  split
  · simp only [State.answer, State.putHostTag, State.putResponse, State.putWindow, State.putLink, State.quiet,
      responding, put_put_same]
  · rfl

/-- Checks 4 and 5 passed: the access is accepted (R34). -/
theorem decodeAccess_of_accepted {s : State} {r : HostRequest} {offset : Nat} {w : WinIx} {m : Mapping} {refs : Nat}
    (halign : r.addr.toNat % sizeBytes r.size = 0) (hcover : coveredBy s (offset / 4096) w)
    (hw : s.windows.get w = .opened m refs)
    (hallowed : ¬(m.rights = .read ∧ r.op = .write ∨ m.rights = .write ∧ r.op = .read))
    (hroom : (s.links.get m.slot).queue.length < 16) :
    s.decodeAccess r offset = s.accept w m refs r offset := by
  have hallows : m.rights.allows r.op = true := Bool.of_not_eq_false fun h => hallowed ((allows_eq_false_iff _ _).1 h)
  rw [decodeAccess_of_opened halign hcover hw, if_pos hallows, if_pos hroom]

/-! ### The words of the control block (R151) -/

/-- The words that allow a write. -/
def BlockWord.writable : BlockWord → Bool
  | .operand _ | .commandCode | .eos _ => true
  | _ => false

/-- Every word but the command code word can be read. -/
theorem State.readWord_eq_none_iff (s : State) (b : BlockWord) : s.readWord b = none ↔ b = .commandCode := by
  cases b <;> simp [State.readWord]

theorem State.writeWord_eq_none_iff (s : State) (data : Word) (b : BlockWord) :
    s.writeWord data b = none ↔ b.writable = false := by
  cases b <;> simp [State.writeWord, BlockWord.writable]

/-- Every offset that holds a word is among those the host may read, but the command code word's; and among those it may
write when the word allows it. -/
theorem blockWord_offset {offset : Nat} {b : BlockWord} (h : blockWord offset = some b) :
    (b ≠ .commandCode → offset ∈ readable) ∧ (b.writable = true → offset ∈ writable) := by
  unfold blockWord at h
  split at h
  case h_23 => exact nomatch h
  all_goals
    obtain rfl := Option.some.inj h
    decide

/-- An access that finds a word is of size 4 at an offset that holds it. -/
theorem accessedWord_eq_some_iff {size : Size} {offset : Nat} {b : BlockWord} :
    accessedWord size offset = some b ↔ (size = .four ∧ offset % 4 = 0) ∧ blockWord offset = some b := by
  rw [accessedWord, Option.ite_none_right_eq_some]

/-- A read that reaches no word that allows it is answered DENIED. -/
theorem State.controlAccess_of_deniedRead {s : State} {tag : HostTag} {addr data : Word} {size : Size} {offset : Nat}
    (h : ∀ b, accessedWord size offset = some b → s.readWord b = none) :
    s.controlAccess { tag, op := .read, addr, size, data } offset = s.answer tag .denied none := by
  cases hword : accessedWord size offset with
  | none => simp only [controlAccess, hword]
  | some b => simp only [controlAccess, hword, h b hword]

/-- A claimed read that meets no word it may read is answered DENIED and has no effect. -/
theorem exec_commandStatusRead_of_denied {s : State} {tag : HostTag} {addr : Word} {size : Size} {offset : Nat}
    (hclaim : claiming s tag) (hin : inControlBlock s addr offset) (h : size ≠ .four ∨ offset ∉ readable) :
    exec (.commandStatusRead tag addr size) s = .next (responding tag .denied none s) := by
  have hdenied : ∀ b, accessedWord size offset = some b → (s.quiet.putHostTag tag true).readWord b = none := by
    intro b hb
    obtain ⟨⟨hsize, -⟩, hword⟩ := accessedWord_eq_some_iff.1 hb
    rw [State.readWord_eq_none_iff]
    by_contra hb'
    exact h.elim (· hsize) (· ((blockWord_offset hword).1 hb'))
  have ⟨hreset, _, hfree⟩ := hclaim
  rw [exec_of_running (c := .commandStatusRead tag addr size) trivial hreset]
  exact congrArg _ (State.hostRequest_of_answer (r := { tag, op := .read, addr, size, data := 0 }) hclaim hin
    (State.controlAccess_of_deniedRead hdenied) hfree)

/-- A claimed write that meets no word it may write is answered DENIED and has no effect. -/
theorem exec_controlBlockWrite_of_noWord {s : State} {tag : HostTag} {addr data : Word} {size : Size} {offset : Nat}
    (hclaim : claiming s tag) (hin : inControlBlock s addr offset) (h : size ≠ .four ∨ offset ∉ writable) :
    exec (.controlBlockWrite tag addr size data) s = .next (responding tag .denied none s) := by
  have hdenied : ∀ b, accessedWord size offset = some b → (s.quiet.putHostTag tag true).writeWord data b = none := by
    intro b hb
    obtain ⟨⟨hsize, -⟩, hword⟩ := accessedWord_eq_some_iff.1 hb
    rw [State.writeWord_eq_none_iff, Bool.eq_false_iff]
    intro hb'
    exact h.elim (· hsize) (· ((blockWord_offset hword).2 hb'))
  have ⟨hreset, _, hfree⟩ := hclaim
  rw [exec_of_running (c := .controlBlockWrite tag addr size data) trivial hreset]
  exact congrArg _ (State.hostRequest_of_answer (r := { tag, op := .write, addr, size, data }) hclaim hin
    (State.controlAccess_of_deniedWrite hdenied) hfree)

/-- A claimed 4-byte write of a word that allows it has its effect and is answered OK. -/
theorem exec_controlBlockWrite {s t : State} {tag : HostTag} {addr data : Word} {offset : Nat} {b : BlockWord}
    (hclaim : claiming s tag) (hin : inControlBlock s addr offset) (hword : accessedWord .four offset = some b)
    (hwrite : (s.quiet.putHostTag tag true).writeWord data b = some (t.quiet.putHostTag tag true))
    (hstill : t.hostTable.get tag = false) :
    exec (.controlBlockWrite tag addr .four data) s = .next (responding tag .ok none t) := by
  have ⟨hreset, _, _⟩ := hclaim
  rw [exec_of_running (c := .controlBlockWrite tag addr .four data) trivial hreset]
  exact congrArg _ (State.hostRequest_of_answer (r := { tag, op := .write, addr, size := .four, data }) hclaim hin
    (State.controlAccess_of_write hword hwrite) hstill)

theorem accessedWord_operand (k : Fin 4) : accessedWord .four (0x10 + 4 * k.val) = some (.operand k) := by
  revert k
  decide

/-! ### The summary words (R119, R152, R156) -/

theorem State.identificationWord_toNat (s : State) :
    s.identificationWord.toNat = 0x0864 * 65536 + 0x01 * 256 + 2 * s.cbStrap.toNat + bit s.apStrap := by
  have h : ∀ (cb : BitVec 2) (ap : Bool),
      (place Config.partCode 16 16 ||| place Config.revision 8 8 ||| place cb.toNat 1 2 ||| flag ap 0).toNat =
        0x0864 * 65536 + 0x01 * 256 + 2 * cb.toNat + bit ap := by decide
  exact h s.cbStrap s.apStrap

theorem eosWord_toNat (set : Byte) : (eosWord set).toNat = set.toNat := by
  rw [eosWord, BitVec.toNat_setWidth, Nat.mod_eq_of_lt (set.isLt.trans (by decide))]

/-- A priority is above the in-service set exactly when it is above every priority in it (R113). -/
theorem above_iff (set : Byte) (p : Fin 8) : above set p = true ↔ ∀ q : Fin 8, set.getLsbD q.val = true → q < p := by
  unfold above
  cases hmax : inServiceMax set with
  | none =>
    have hnone : ∀ q, inService set q = false := by simpa [inServiceMax] using hmax
    exact iff_of_true rfl fun q hq => absurd hq (Bool.eq_false_iff.1 (hnone q))
  | some m =>
    obtain ⟨hin, hle⟩ := (inServiceMax_eq_some set m).1 hmax
    rw [decide_eq_true_eq]
    exact ⟨fun hlt q hq => (hle q hq).trans_lt hlt, fun h => h m hin⟩

theorem State.eligible_iff (s : State) (l : LineIx) (i : Fin 18) :
    s.eligible l i = true ↔ Expected.eligible s l i := by
  simp only [State.eligible, Source.eligible, Bool.and_eq_true, beq_iff_eq, bne_iff_ne, above_iff, and_assoc]

theorem State.lineAsserted_iff (s : State) (l : LineIx) :
    s.lineAsserted l = true ↔ ∃ i, Expected.eligible s l i := by
  simp only [State.lineAsserted, List.any_eq_true, List.mem_finRange, true_and, State.eligible_iff]

/-- The byte of a line is its assertion flag above the in-service field. -/
theorem State.lineByte_eq (s : State) (l : LineIx) :
    s.lineByte l = 128 * bit (s.lineAsserted l) + (inServiceMax (s.lines.get l)).elim 0 (8 + ·.val) := by
  unfold State.lineByte
  split <;> rename_i h <;> rw [h]
  · rfl
  · exact Nat.add_assoc ..

theorem inServiceField_lt (set : Byte) : (inServiceMax set).elim 0 (8 + ·.val) < 128 := by
  cases inServiceMax set with
  | none => decide
  | some m => exact (Nat.add_lt_add_left m.isLt 8).trans (by decide)

theorem State.lineByte_lt (s : State) (l : LineIx) : s.lineByte l < 2 ^ 8 := by
  have hflag : bit (s.lineAsserted l) < 2 := Bool.toNat_lt _
  have := inServiceField_lt (s.lines.get l)
  rw [State.lineByte_eq]
  omega

/-- The line summary holds each line's byte at its place. -/
theorem State.lineSummaryWord_byte (s : State) (l : LineIx) :
    s.lineSummaryWord.toNat / 2 ^ (8 * l.val) % 256 = s.lineByte l := by
  have h0 : Packs (place (s.lineByte 0) 0 8) 8 (s.lineByte 0) := Packs.place_zero (s.lineByte_lt 0) (by decide)
  have h1 := h0.or_place (lo := 8) (len := 8) (by decide) (s.lineByte_lt 1) (by decide)
  have h2 := h1.or_place (lo := 16) (len := 8) (by decide) (s.lineByte_lt 2) (by decide)
  have hword : s.lineSummaryWord.toNat = _ :=
    (h2.or_place (lo := 24) (len := 8) (by decide) (s.lineByte_lt 3) (by decide)).1
  have hlt0 := s.lineByte_lt 0
  have hlt1 := s.lineByte_lt 1
  have hlt2 := s.lineByte_lt 2
  have hlt3 := s.lineByte_lt 3
  have hlines : ∀ l : LineIx, l = 0 ∨ l = 1 ∨ l = 2 ∨ l = 3 := by decide
  rw [hword]
  rcases hlines l with rfl | rfl | rfl | rfl
  all_goals
    simp only [Fin.val_zero, Fin.val_one, Fin.val_two, Fin.isValue, show (3 : Fin 4).val = 3 from rfl]
    omega

theorem SlotState.code_eq (x : SlotState) : x.code = slotStateNumber x := by
  cases x <;> rfl

theorem slotStateNumber_lt (x : SlotState) : slotStateNumber x < 2 ^ 4 := by
  cases x <;> simp [slotStateNumber]

/-- Fields of four bits put together from bit 0 up. -/
def nibbles (f : Nat → Nat) : Nat → Nat
  | 0 => 0
  | k + 1 => nibbles f k + 2 ^ (4 * k) * f k

/-- A field of four bits read back from its place. -/
theorem nibbles_div_mod {f : Nat → Nat} (hf : ∀ k, f k < 16) {j : Nat} (n : Nat) (hj : j < n) :
    nibbles f n / 2 ^ (4 * j) % 16 = f j := by
  have hlt : ∀ n, nibbles f n < 2 ^ (4 * n) := by
    intro n
    induction n with
    | zero => simp [nibbles]
    | succ n ih =>
      have := hf n
      calc nibbles f n + 2 ^ (4 * n) * f n
        _ < 2 ^ (4 * n) * (f n + 1) := by rw [Nat.mul_add]; omega
        _ ≤ 2 ^ (4 * n) * 16 := Nat.mul_le_mul_left _ (hf n)
        _ = 2 ^ (4 * (n + 1)) := by rw [Nat.mul_add, Nat.pow_add]
  induction n with
  | zero => omega
  | succ n ih =>
    rcases Nat.lt_succ_iff_lt_or_eq.1 hj with h | rfl
    · have hsplit : 2 ^ (4 * n) = 2 ^ (4 * j) * (16 * 2 ^ (4 * (n - j - 1))) := by
        rw [show (16 : Nat) = 2 ^ 4 from rfl, ← Nat.pow_add, ← Nat.pow_add]
        congr 1
        omega
      rw [nibbles, hsplit, Nat.mul_assoc, Nat.add_mul_div_left _ _ (Nat.two_pow_pos _), Nat.mul_assoc,
        Nat.add_mul_mod_self_left, ih h]
    · rw [nibbles, Nat.add_mul_div_left _ _ (Nat.two_pow_pos _), Nat.div_eq_of_lt (hlt j), Nat.zero_add,
        Nat.mod_eq_of_lt (hf j)]

/-- The state number of slot `k`. -/
def State.slotNumber (s : State) (k : Nat) : Nat :=
  if h : k < 8 then slotStateNumber (s.slots.get ⟨k, h⟩).state else 0

theorem State.slotNumber_lt (s : State) (k : Nat) : s.slotNumber k < 16 := by
  unfold State.slotNumber
  split
  · exact slotStateNumber_lt _
  · decide

/-- The slot summary holds each slot's state at its place. -/
theorem State.slotSummaryWord_field (s : State) (n : SlotIx) :
    s.slotSummaryWord.toNat / 2 ^ (4 * n.val) % 16 = slotStateNumber (s.slots.get n).state := by
  have hpacks : ∀ k (w : Word) (h : k < 8), Packs w (4 * k) (nibbles s.slotNumber k) →
      Packs (w ||| place (s.slots.get ⟨k, h⟩).state.code (4 * k) 4) (4 * (k + 1)) (nibbles s.slotNumber (k + 1)) := by
    intro k w h hw
    have hnumber : (s.slots.get ⟨k, h⟩).state.code = s.slotNumber k := by
      rw [State.slotNumber, dif_pos h, SlotState.code_eq]
    rw [hnumber]
    exact hw.or_place le_rfl (s.slotNumber_lt k) (by omega)
  have hzero : Packs 0 (4 * 0) (nibbles s.slotNumber 0) := ⟨rfl, Nat.two_pow_pos _⟩
  have hword : Packs s.slotSummaryWord (4 * 8) (nibbles s.slotNumber 8) :=
    hpacks 7 _ (by decide) <| hpacks 6 _ (by decide) <| hpacks 5 _ (by decide) <| hpacks 4 _ (by decide) <|
      hpacks 3 _ (by decide) <| hpacks 2 _ (by decide) <| hpacks 1 _ (by decide) <| hpacks 0 _ (by decide) hzero
  rw [hword.1, nibbles_div_mod s.slotNumber_lt 8 n.isLt, State.slotNumber, dif_pos n.isLt]

/-- Eight bytes add up to less than 2048. -/
theorem State.committed_lt (s : State) : s.committed < 2 ^ 11 := by
  have hle : ∀ x ∈ (List.finRange 8).map fun n => (s.slots.get n).committedUnits.toNat, x ≤ 255 := by
    intro x hx
    obtain ⟨n, -, rfl⟩ := List.mem_map.1 hx
    exact Nat.le_of_lt_succ (s.slots.get n).committedUnits.isLt
  have hsum := List.sum_le_card_nsmul _ _ hle
  rw [List.length_map, List.length_finRange, smul_eq_mul] at hsum
  exact hsum.trans_lt (by decide)

theorem State.powerAccountWord_toNat {s : State} (h : s.config.budget ≤ 4000) :
    s.powerAccountWord.toNat = s.committed + 65536 * s.config.budget := by
  have hcommitted : Packs (place s.committed 0 11) 11 s.committed := Packs.place_zero s.committed_lt (by decide)
  exact (hcommitted.or_place (lo := 16) (len := 12) (by decide) (by omega) (by decide)).1

/-! ### ACK (R115) -/

theorem accessedWord_ackOffset (l : LineIx) : accessedWord .four (ackOffset l) = some (.ack l) := by
  revert l
  decide

/-- The search of ACK finds the source of the highest priority, and among several the lowest number. -/
theorem State.selected_of_selected {s : State} {l : LineIx} {i : Fin 18} (h : Expected.selected s l i) :
    s.selected l = some i := by
  obtain ⟨heligible, hbest⟩ := h
  rw [State.selected_eq_some]
  refine ⟨⟨(s.eligible_iff l i).2 heligible, ?_⟩, fun j hj => ?_⟩
  · simp only [State.topPriority, List.all_eq_true, List.mem_finRange, true_implies, Bool.or_eq_true,
      Bool.not_eq_true', decide_eq_true_eq]
    intro j
    by_cases hj : s.eligible l j = true
    · exact .inr ((hbest j ((s.eligible_iff l j).1 hj)).elim le_of_lt fun h => h.1.le)
    · exact .inl (Bool.eq_false_iff.2 hj)
  · by_contra hpass
    rw [Bool.not_eq_false, Bool.and_eq_true] at hpass
    obtain ⟨hj', htop⟩ := hpass
    have hge : (s.sources.get i).priority ≤ (s.sources.get j).priority := by
      have := List.all_eq_true.1 htop i (List.mem_finRange i)
      simpa [(s.eligible_iff l i).2 heligible] using this
    rcases hbest j ((s.eligible_iff l j).1 hj') with hlt | ⟨-, hle⟩
    · exact absurd hge (not_le.2 hlt)
    · exact absurd hj (not_lt.2 hle)

/-- ACK finds nothing where no source is eligible. -/
theorem State.selected_eq_none {s : State} {l : LineIx} (h : ∀ i, ¬Expected.eligible s l i) : s.selected l = none := by
  rw [State.selected, find_finRange_eq_none]
  intro j
  rw [Bool.eq_false_iff.2 fun hj => h j ((s.eligible_iff l j).1 hj), Bool.false_and]

theorem ackWord_some (i : Fin 18) (causes : Byte) :
    ackWord (some (i, causes)) = BitVec.ofNat 32 (i.val + 256 * causes.toNat) := by
  have hsource : Packs (place i.val 0 5) 5 i.val := Packs.place_zero (by omega) (by decide)
  have hword := (hsource.or_place (lo := 8) (len := 8) (by decide) causes.isLt (by decide)).1
  apply BitVec.eq_of_toNat_eq
  rw [toNat_ofNat_word (by omega)]
  exact hword

/-- A claimed ACK returns the word of the line and leaves what the ACK leaves. -/
theorem exec_ack {s t : State} {tag : HostTag} {l : LineIx} (hclaim : claiming s tag)
    (htake : (s.quiet.putHostTag tag true).takeAck l = t.quiet.putHostTag tag true)
    (hstill : t.hostTable.get tag = false) :
    exec (.ack tag l) s = .next (responding tag .ok (some (s.ackValue l)) t) := by
  have hoffset : ackOffset l ≤ 0xFF := by unfold ackOffset; omega
  have hin : inControlBlock s (s.quiet.blockAddress (ackOffset l)) (ackOffset l) :=
    ⟨s.quiet.blockAddress_toNat hoffset, hoffset⟩
  have hread : (s.quiet.putHostTag tag true).readWord (.ack l) =
      some (s.ackValue l, t.quiet.putHostTag tag true) := congrArg (fun t => some (s.ackValue l, t)) htake
  have ⟨hreset, _, _⟩ := hclaim
  rw [exec_of_running (c := .ack tag l) trivial hreset]
  exact congrArg _ (State.hostRequest_of_answer (r := s.quiet.readRequest tag (ackOffset l)) hclaim hin
    (State.controlAccess_of_read (accessedWord_ackOffset l) hread) hstill)

end Sys2Proof.Machine

/-! ### The obligations -/

namespace Sys2Proof.HostRequests

-- One proof at a time: side by side they take more threads than the check's memory limit allows.
set_option Elab.async false

open Sys2Proof.Machine Sys2Proof.Expected

/-- Settles O10: the decoder's last branch, with the entry and the table written out. -/
theorem acceptedAccessQueuesEntry : Obligations.AcceptedAccessQueuesEntry := by
  intro s tag op addr size data offset w m refs hclaim hin halign hcover hopened hallowed hroom isPosted entry accepted
  rw [← sizeBytes_eq_bytes] at halign
  rw [exec_apertureAccess hclaim hin,
    decodeAccess_of_accepted (s := s.quiet.putHostTag tag true) halign hcover hopened hallowed hroom,
    State.accept_claimed s w m refs { tag, op, addr, size, data } offset, acceptedEntry_eq]
  have hposted : posted m.kind op = isPosted := rfl
  cases hbit : isPosted with
  | true =>
    rw [hposted, hbit]
    simp only [accepted, hbit]
    rfl
  | false =>
    rw [hposted, hbit]
    simp only [accepted, hbit]
    rfl

/-- Settles O11: the Host Port's branch of a tag in flight. -/
theorem reusedTagDiscardsRequest : Obligations.ReusedTagDiscardsRequest := by
  intro s c tag addr offset hrequest hrun hhost hbusy hin
  obtain ⟨r, rfl, rfl, hexec⟩ := exec_of_requestOf hrequest hrun
  obtain ⟨t, htarget⟩ := State.target_of_claimed (s := s.quiet) hin
  obtain ⟨-, -, hreused, -, -⟩ := s.quiet.hostRequest_eq r
  rw [hexec, hreused t hhost htarget hbusy]
  rfl

/-- Settles O12: the Host Port's two branches that claim nothing. -/
theorem unclaimedRequestChangesNothing : Obligations.UnclaimedRequestChangesNothing := by
  intro s c tag addr hrequest hrun hunclaimed
  obtain ⟨r, rfl, rfl, hexec⟩ := exec_of_requestOf hrequest hrun
  obtain ⟨hreset, houtside, -, -, -⟩ := s.quiet.hostRequest_eq r
  rw [hexec]
  rcases hunclaimed with hhost | hrange
  · rw [hreset hhost]
    rfl
  · rw [houtside (State.target_eq_none hrange)]
    rfl

/-- Settles O13: no word that allows the access stands at the offset. -/
theorem deniedBlockAccessAnswersOnly : Obligations.DeniedBlockAccessAnswersOnly := by
  intro s tag addr size data offset hclaim hin
  exact ⟨exec_commandStatusRead_of_denied hclaim hin, exec_controlBlockWrite_of_noWord hclaim hin⟩

/-- Settles O14: an operand word is replaced by a write and returned by a read. -/
theorem operandWordsHoldWrites : Obligations.OperandWordsHoldWrites := by
  intro s tag k addr data hclaim hin
  have ⟨_, _, hfree⟩ := hclaim
  exact ⟨exec_controlBlockWrite hclaim hin (accessedWord_operand k) rfl hfree,
    exec_commandStatusRead hclaim hin (accessedWord_operand k) rfl hfree⟩

/-- Settles O16: each word is read without an effect, and its fields are those of the records. -/
theorem summaryWordsShowRecords : Obligations.SummaryWordsShowRecords := by
  intro s tag addr hclaim
  have ⟨_, _, hfree⟩ := hclaim
  refine ⟨fun hin => ?_, fun l hin => ?_, fun hin => ?_, fun hin => ?_, fun hin hbudget => ?_⟩
  · exact ⟨s.identificationWord, exec_commandStatusRead (b := .identification) hclaim hin rfl rfl hfree,
      s.identificationWord_toNat⟩
  · exact ⟨eosWord (s.lines.get l), exec_commandStatusRead hclaim hin (accessedWord_eosOffset l) rfl hfree,
      eosWord_toNat _⟩
  · refine ⟨s.lineSummaryWord, exec_commandStatusRead (b := .lineSummary) hclaim hin rfl rfl hfree, fun l => ?_⟩
    have hbyte := s.lineSummaryWord_byte l
    have hfield := inServiceField_lt (s.lines.get l)
    rw [State.lineByte_eq] at hbyte
    have hflag : bit (s.lineAsserted l) < 2 := Bool.toNat_lt _
    have hassert : s.lineSummaryWord.toNat / 2 ^ (8 * l.val + 7) % 2 = bit (s.lineAsserted l) := by
      rw [Nat.pow_add, ← Nat.div_div_eq_div_mul]
      omega
    have hservice : s.lineSummaryWord.toNat / 2 ^ (8 * l.val) % 128 =
        (inServiceMax (s.lines.get l)).elim 0 (8 + ·.val) := by
      omega
    refine ⟨?_, fun hempty => ?_, fun p hmax => ?_⟩
    · rw [hassert, ← State.lineAsserted_iff, Bool.toNat_eq_one]
    · rw [hservice, hempty, inServiceMax_zero]
      rfl
    · rw [hservice, (inServiceMax_eq_some _ p).2 hmax]
      rfl
  · exact ⟨s.slotSummaryWord, exec_commandStatusRead (b := .slotSummary) hclaim hin rfl rfl hfree,
      s.slotSummaryWord_field⟩
  · exact ⟨s.powerAccountWord, exec_commandStatusRead (b := .powerAccount) hclaim hin rfl rfl hfree,
      State.powerAccountWord_toNat hbudget⟩

/-- Settles O17: the write of the code word takes the branch of an issue. -/
theorem codeWriteIssuesCommand : Obligations.CodeWriteIssuesCommand := by
  intro s tag code hclaim hidle
  obtain ⟨-, hissue⟩ := (s.quiet.putHostTag tag true).writeCode_eq code
  have ⟨_, _, hfree⟩ := hclaim
  exact exec_cmdOverrun hclaim (hissue hidle) hfree

/-- Settles O19: the source the search selects, or none. -/
theorem ackTakesHighestSource : Obligations.AckTakesHighestSource := by
  intro s tag l hclaim
  have ⟨_, _, hfree⟩ := hclaim
  obtain ⟨hnone, hsome⟩ := (s.quiet.putHostTag tag true).takeAck_eq l
  constructor
  · intro i hi
    have hselected := State.selected_of_selected hi
    have hvalue : s.ackValue l = BitVec.ofNat 32 (i.val + 256 * (s.sources.get i).causes.toNat) := by
      rw [State.ackValue, hselected, Option.map_some, ackWord_some]
    rw [← hvalue]
    exact exec_ack hclaim (hsome i hselected) hfree
  · intro h
    have hselected := State.selected_eq_none h
    have hvalue : s.ackValue l = 0x80000000 := by
      rw [State.ackValue, hselected]
      rfl
    rw [← hvalue]
    exact exec_ack hclaim (hnone hselected) hfree

end Sys2Proof.HostRequests

/-! PROOFS. The commands of windows, slots and tickets (chapters 1, 3, 4, 7 and 8). -/

namespace Sys2Proof.Machine

-- One proof at a time: side by side they take more threads than the check's memory limit allows.
set_option Elab.async false

open Sys2Proof.Expected

/-! ### Causes added to a source (R111) -/

theorem State.raise_eq (s : State) (c : Cause) : s.raise c = withCauses c.source c.bit s := rfl

/-- Causes added in two goes are added together. -/
theorem withCauses_same (i : Fin 18) (a b : Byte) (s : State) :
    withCauses i a (withCauses i b s) = withCauses i (b ||| a) s := by
  simp only [withCauses, Tbl.get_put, if_true, put_put_same, BitVec.or_assoc]

/-- Causes are added in any order. -/
theorem withCauses_comm (i : Fin 18) (a b : Byte) (s : State) :
    withCauses i a (withCauses i b s) = withCauses i b (withCauses i a s) := by
  rw [withCauses_same, withCauses_same, BitVec.or_comm]

@[simp] theorem withCauses_zero (i : Fin 18) (s : State) : withCauses i 0 s = s := by
  have hor : ∀ b : Byte, b ||| 0 = b := fun b => BitVec.or_zero
  rw [withCauses, hor]
  change { s with sources := s.sources.put i (s.sources.get i) } = s
  rw [put_get_self]

/-! ### The OPEN ticket of a target, and the lowest FREE record (R141, R142) -/

theorem Ticket.openFor_iff {p : TicketOp → Bool} {t : Ticket} :
    t.openFor p = true ↔ ∃ op, t.body = .opened op ∧ p op = true := by
  unfold Ticket.openFor
  split
  · rename_i op h
    simp [h]
  · rename_i h
    simpa using fun op hop => absurd hop (h op)

theorem State.openTicket_isSome_iff {s : State} {p : TicketOp → Bool} :
    (s.openTicket p).isSome = true ↔ ∃ k op, (s.tickets.get k).body = .opened op ∧ p op = true := by
  simp [openTicket, Ticket.openFor_iff]

theorem TicketOp.onWindow_iff {w : WinIx} {op : TicketOp} : op.onWindow w = true ↔ op = .close w := by
  cases op <;> simp [TicketOp.onWindow]

theorem TicketOp.onSlot_iff {n : SlotIx} {op : TicketOp} :
    op.onSlot n = true ↔ op = .admission n ∨ op = .ejection n ∨ op = .recovery n := by
  cases op <;> simp [TicketOp.onSlot]

/-- A window has an OPEN ticket when one is OPEN for its WIN_CLOSE. -/
theorem State.windowTicket_iff {s : State} {w : WinIx} :
    (s.openTicket (TicketOp.onWindow w)).isSome = true ↔ ticketOpen s (.close w) := by
  simp [State.openTicket_isSome_iff, TicketOp.onWindow_iff, ticketOpen]

/-- A slot has an OPEN ticket when one is OPEN for its admission, ejection or recovery. -/
theorem State.slotTicket_iff {s : State} {n : SlotIx} :
    (s.openTicket (TicketOp.onSlot n)).isSome = true ↔ slotBusy s n := by
  simp only [State.openTicket_isSome_iff, TicketOp.onSlot_iff, ticketOpen, and_or_left, exists_or, exists_eq_right,
    slotBusy]

theorem Ticket.id_lt (t : Ticket) (k : Fin 8) : t.id k < 2 ^ 8 := by
  unfold Ticket.id
  omega

theorem nextId_eq (s : State) (k : Fin 8) (op : TicketOp) : ((s.tickets.get k).allocate op).id k = nextId s k := rfl

theorem nextId_lt (s : State) (k : Fin 8) : nextId s k < 2 ^ 8 :=
  ((s.tickets.get k).allocate (.admission 0)).id_lt k

/-- The index of a ticket record stands in the low three bits of its id (R140). -/
theorem ticketIndex_id (t : Ticket) (k : Fin 8) : ticketIndex (t.id k) = k := by
  apply Fin.ext
  simp only [ticketIndex, Ticket.id]
  omega

/-- The ticket operand is the id of a record (R154). -/
theorem ticketOperand_of_operand {s : State} {id : Nat} (h : operand s 0 id) (hid : id < 256) :
    ticketOperand s.engine.takenOperands = some id := by
  have hw : (s.engine.takenOperands.get 0).toNat = id := by rw [h, toNat_ofNat_word (by omega)]
  have hin : within (s.engine.takenOperands.get 0) 0xFF = true := by
    rw [within_low_iff 8 _ (by decide) (by decide), hw]
    exact hid
  have hfield : field (s.engine.takenOperands.get 0) 0 8 = id := by
    rw [field_eq, hw]
    omega
  rw [ticketOperand, if_pos hin, hfield]

/-- The slot operand is the whole of word 0 (R154). -/
theorem slotOperand_of_operand {s : State} {n : SlotIx} (h : operand s 0 n.val) :
    slotOperand s.engine.takenOperands = some n := by
  have hw : (s.engine.takenOperands.get 0).toNat = n.val := by rw [h, toNat_ofNat_word (by omega)]
  have hin : within (s.engine.takenOperands.get 0) 0x7 = true := by
    rw [within_low_iff 3 _ (by decide) (by decide), hw]
    exact n.isLt
  have hfield : field (s.engine.takenOperands.get 0) 0 3 = n.val := by
    rw [field_eq, hw]
    omega
  rw [slotOperand, if_pos hin, hfield, indexOf_val]

/-! ### Deferred commands (R134, R141) -/

/-- A deferred command with no FREE record refuses. -/
theorem deferred_of_noTicketFree {s : State} (op : TicketOp) (start : Nat → State → State) (h : noTicketFree s) :
    deferred s op start = .refuse .noTicket :=
  (deferred_eq s op start).2 (State.freeTicket_eq_none.2 h)

/-- A deferred command takes the lowest FREE record and returns its new id. -/
theorem deferred_of_lowestFree {s : State} {k : Fin 8} (op : TicketOp) (start : Nat → State → State)
    (h : lowestFree s k) :
    deferred s op start = .finish .accepted (oneWord (nextId s k)) (start (nextId s k) (allocated k op s)) := by
  rw [(deferred_eq s op start).1 k (State.freeTicket_eq_some.2 h), nextId_eq,
    indexWords_eq_oneWord (nextId_lt s k) (by decide)]
  rfl

/-- A deferred command in execution: NO_TICKET, or its start on the state with the ticket allocated. -/
theorem completes_deferred {s : State} {op : TicketOp} {start : Nat → State → State}
    {outcome : Host.Outcome State Fault Refusal}
    (h : outcome = .next ((deferred s.quiet op start).result s.quiet)) :
    (noTicketFree s → outcome = .next (completed .noTicket zeros s)) ∧
    ∀ k, lowestFree s k →
      outcome =
        .next ((start (nextId s k) (allocated k op s.quiet)).complete .accepted (oneWord (nextId s k))) := by
  subst h
  constructor
  · intro hnone
    rw [deferred_of_noTicketFree (s := s.quiet) op start hnone, result_refuse_quiet]
  · intro k hk
    rw [deferred_of_lowestFree (s := s.quiet) op start hk]
    rfl

/-! ### WIN_OPEN and WIN_CLOSE (R12, R14, R20) -/

theorem exec_winOpen {s : State} {w : WinIx} (h : executing 0x02 s) (hw : operand s 0 w.val) :
    exec .winOpen s = .next ((openWindow s.quiet w).result s.quiet) :=
  taken_checked (c := .winOpen) openWindow h (windowOperand_of_operand hw)

theorem exec_winClose {s : State} {w : WinIx} (h : executing 0x03 s) (hw : operand s 0 w.val) :
    exec .winClose s = .next ((closeWindow s.quiet w).result s.quiet) :=
  taken_checked (c := .winClose) closeWindow h (windowOperand_of_operand hw)

/-- WIN_OPEN by the window's state and then the slot's. -/
theorem openWindow_eq (s : State) (w : WinIx) :
    ((∀ m, s.windows.get w ≠ .staged m) → openWindow s w = .refuse .windowState) ∧
    ∀ m, s.windows.get w = .staged m →
      openWindow s w =
        if (s.slots.get m.slot).state = .active then .finish .ok noWords (s.putWindow w (.opened m 0))
        else .refuse .slotState := by
  unfold openWindow
  cases s.windows.get w <;> simp

/-- WIN_CLOSE by the window's OPEN ticket and then its state. -/
theorem closeWindow_eq (s : State) (w : WinIx) :
    (ticketOpen s (.close w) → closeWindow s w = .refuse .targetBusy) ∧
    (¬ticketOpen s (.close w) →
      ((∀ m refs, s.windows.get w ≠ .opened m refs) → closeWindow s w = .refuse .windowState) ∧
      ∀ m refs, s.windows.get w = .opened m refs →
        closeWindow s w = deferred s (.close w) fun id s' => s'.startClose w m refs id) := by
  unfold closeWindow
  rw [← State.windowTicket_iff]
  constructor
  · intro hopen
    rw [if_pos hopen]
  · intro hopen
    rw [if_neg hopen]
    cases s.windows.get w <;> simp

/-- The close of a window with references: CLOSING with the ticket's id. -/
theorem State.startClose_of_refs {s : State} {refs : Nat} (w : WinIx) (m : Mapping) (id : Nat) (h : refs ≠ 0) :
    s.startClose w m refs id = s.putWindow w (.closing m refs .toStaged (some id)) :=
  if_neg h

/-- The close of a window without references drains it, and its ticket ends in the same step. -/
theorem State.startClose_of_noRefs {s : State} {w : WinIx} {k : Fin 8} (m : Mapping) (id : Nat)
    (hid : (s.tickets.get k).id k = id) (hopen : (s.tickets.get k).body = .opened (.close w)) :
    s.startClose w m 0 id =
      ((s.putWindow w (.staged m)).putTicket k
        { s.tickets.get k with body := .finished (.close w) .success (some .staged) }).raise .ticketDone := by
  subst hid
  have hwindows : (s.putWindow w (.closing m 0 .toStaged (some ((s.tickets.get k).id k)))).putWindow w (.staged m) =
      s.putWindow w (.staged m) := by
    simp only [State.putWindow, put_put_same]
  obtain ⟨-, hdrain⟩ := (s.putWindow w (.closing m 0 .toStaged (some ((s.tickets.get k).id k)))).drain_eq w m .toStaged
  rw [State.startClose, if_pos rfl, hdrain, ticketIndex_id, State.putWindow_tickets, if_pos rfl]
  change ((s.putWindow w _).putWindow w (.staged m)).finishTicket k .success (some .staged) = _
  rw [hwindows]
  exact ((s.putWindow w (.staged m)).finishTicket_eq k .success (some .staged)).1 _ hopen

/-- A cause added before the completion of a command may be added after it. -/
theorem State.raise_complete (s : State) (code : ResultCode) (results : Tbl 4 Word) :
    (s.raise .ticketDone).complete code results = withCauses 16 0x02 (s.complete code results) :=
  withCauses_comm 16 0x01 0x02 (s.putEngine { s.engine with state := .finished code, results := results })

/-! ### SLOT_READ and PROFILE_READ (R72, R89, R155) -/

theorem exec_slotRead {s : State} {n : SlotIx} (h : executing 0x10 s) (hn : operand s 0 n.val) :
    exec .slotRead s = .next (completed .ok (slotReadWords (s.slots.get n) (s.slotTicketId n)) s) :=
  taken_checked (c := .slotRead) readSlot h (slotOperand_of_operand hn)

/-- The id SLOT_READ returns, when the slot's OPEN ticket is known. -/
theorem State.slotTicketId_eq {s : State} {n : SlotIx} {ticket : Option (Fin 8)}
    (h : ∀ k, (s.tickets.get k).openFor (TicketOp.onSlot n) = true ↔ ticket = some k) :
    s.slotTicketId n = ticket.map fun k => (s.tickets.get k).id k := by
  cases ticket with
  | none =>
    have hnone : s.openTicket (TicketOp.onSlot n) = none :=
      State.openTicket_eq_none.2 fun k => Bool.eq_false_iff.2 fun hk => nomatch (h k).1 hk
    rw [State.slotTicketId, hnone, Option.map_none]
  | some k =>
    have hsome : s.openTicket (TicketOp.onSlot n) = some k :=
      State.openTicket_of_openFor ((h k).2 rfl) fun j hj => (Option.some.inj ((h j).1 hj)).symm
    rw [State.slotTicketId, hsome, Option.map_some]

theorem faultNumber_lt (c : FaultCause) : faultNumber c < 2 ^ 4 := by
  cases c <;> simp [faultNumber]

theorem FaultCause.code_eq (c : FaultCause) : c.code = faultNumber c := by
  cases c <;> rfl

theorem postedNumber_lt (c : PostedCause) : postedNumber c < 2 ^ 2 := by
  cases c <;> simp [postedNumber]

theorem PostedCause.code_eq (c : PostedCause) : c.code = postedNumber c := by
  cases c <;> rfl

/-- The state and the fault cause of a slot, in the low byte of word 0 of SLOT_READ. -/
theorem Packs.slotState (x : SlotState) :
    Packs (place x.code 0 4 ||| place (x.faultCause.elim 0 FaultCause.code) 4 4) 8
      (slotStateNumber x + 16 * x.faultCause.elim 0 faultNumber) := by
  have hstate : Packs (place x.code 0 4) 4 (slotStateNumber x) := by
    rw [SlotState.code_eq]
    exact Packs.place_zero (slotStateNumber_lt x) (by decide)
  have hcause : x.faultCause.elim 0 FaultCause.code = x.faultCause.elim 0 faultNumber := by
    cases x.faultCause with
    | none => rfl
    | some c => exact c.code_eq
  have hlt : x.faultCause.elim 0 faultNumber < 2 ^ 4 := by
    cases x.faultCause with
    | none => decide
    | some c => exact faultNumber_lt c
  rw [hcause]
  exact hstate.or_place (lo := 4) (by decide) hlt (by decide)

/-- The profile's presence, its request count and its units, above the slot's state. -/
theorem Packs.or_profile {b : Word} {v : Nat} (hb : Packs b 8 v) (profile : Option Profile)
    (h : ∀ p, profile = some p → p.requests.length ≤ 6) :
    Packs (b ||| profile.elim 0 fun p =>
        flag true 8 ||| place p.requests.length 9 3 ||| place p.powerUnits.toNat 16 8) 24
      (v + profile.elim 0 fun p => 256 + 512 * p.requests.length + 65536 * p.powerUnits.toNat) := by
  cases profile with
  | none => simpa using hb.mono (by decide)
  | some p =>
    have hlength := h p rfl
    have hcount := (hb.or_flag (k := 8) true (by decide) (by decide)).or_place (lo := 9) (len := 3) (by decide)
      (v := p.requests.length) (by omega) (by decide)
    obtain ⟨hword, hlt⟩ := hcount.or_place (lo := 16) (by decide) p.powerUnits.isLt (by decide)
    rw [BitVec.or_assoc, BitVec.or_assoc, ← BitVec.or_assoc (flag true 8)] at hword
    have hvalue : v + (256 + 512 * p.requests.length + 65536 * p.powerUnits.toNat) =
        v + 2 ^ 8 * true.toNat + 2 ^ 9 * p.requests.length + 2 ^ 16 * p.powerUnits.toNat := by
      rw [Bool.toNat_true]
      omega
    exact ⟨hword.trans hvalue.symm, hvalue.trans_lt hlt⟩

theorem or_reverse (a b c d : Word) : a ||| b ||| c ||| d = d ||| c ||| b ||| a := by
  ac_rfl

/-- The posted-failure record in word 2 of SLOT_READ. -/
theorem postedWord_toNat (f : PostedFailure) :
    (flag true 31 ||| flag f.more 30 ||| place f.cause.code 28 2 ||| place f.window.val 0 6).toNat =
      2 ^ 31 + 2 ^ 30 * bit f.more + 2 ^ 28 * postedNumber f.cause + f.window.val := by
  have horder : flag true 31 ||| flag f.more 30 ||| place f.cause.code 28 2 ||| place f.window.val 0 6 =
      place f.window.val 0 6 ||| place (postedNumber f.cause) 28 2 ||| flag f.more 30 ||| flag true 31 := by
    rw [PostedCause.code_eq, or_reverse]
  have hwindow : Packs (place f.window.val 0 6) 6 f.window.val := Packs.place_zero f.window.isLt (by decide)
  have hcause := hwindow.or_place (lo := 28) (len := 2) (by decide) (postedNumber_lt f.cause) (by decide)
  have hmore := hcause.or_flag (k := 30) f.more (by decide) (by decide)
  have hword := (hmore.or_flag (k := 31) true (by decide) (by decide)).1
  have htrue : true.toNat = 1 := rfl
  rw [horder, hword]
  simp only [htrue, bit]
  omega

/-- The result words of SLOT_READ: each field at its place. -/
theorem reads_slotReadWords {r : Slot} {ticket : Option Nat}
    (hrequests : ∀ p, r.profile = some p → p.requests.length ≤ 6) (htags : r.usableTags.getD 0 ≤ 8)
    (hticket : ∀ id, ticket = some id → id < 2 ^ 8) :
    reads (slotReadWords r ticket) 0 (slotStateNumber r.state + 16 * r.state.faultCause.elim 0 faultNumber
        + (r.profile.elim 0 fun p => 256 + 512 * p.requests.length + 65536 * p.powerUnits.toNat)
        + 2 ^ 24 * r.committedUnits.toNat) ∧
      reads (slotReadWords r ticket) 1 (r.usableTags.getD 0 + ticket.elim 0 fun id => 256 + 65536 * id) ∧
      reads (slotReadWords r ticket) 2 (r.posted.elim 0 fun f =>
        2 ^ 31 + 2 ^ 30 * bit f.more + 2 ^ 28 * postedNumber f.cause + f.window.val) ∧
      reads (slotReadWords r ticket) 3 (r.posted.elim 0 fun f => f.addr.toNat) := by
  simp only [reads, slotReadWords, words_get_zero, words_get_one, words_get_two, words_get_three]
  refine ⟨?_, ?_, ?_, ?_⟩
  · have hword := (((Packs.slotState r.state).or_profile r.profile hrequests).or_place (lo := 24) le_rfl
      r.committedUnits.isLt (by decide)).1
    cases hprofile : r.profile with
    | none =>
      rw [hprofile] at hword
      exact hword
    | some p =>
      rw [hprofile] at hword
      exact hword
  · have htagsPlace : Packs (place (r.usableTags.getD 0) 0 4) 4 (r.usableTags.getD 0) :=
      Packs.place_zero (by omega) (by decide)
    cases ticket with
    | none => simpa using htagsPlace.1
    | some id =>
      have hid := (htagsPlace.or_flag (k := 8) true (by decide) (by decide)).or_place (lo := 16) (len := 8) (by decide)
        (hticket id rfl) (by decide)
      simpa [BitVec.or_assoc, Nat.add_assoc] using hid.1
  · cases r.posted with
    | none => rfl
    | some f => exact postedWord_toNat f
  · cases r.posted with
    | none => rfl
    | some f => rfl

/-- The operands of PROFILE_READ: the slot and the item (R154). -/
theorem profileOperands_of_operand {s : State} {n : SlotIx} {item : Fin 7}
    (h : operand s 0 (n.val + 256 * item.val)) : profileOperands s.engine.takenOperands = some (n, item) := by
  have hw : (s.engine.takenOperands.get 0).toNat = n.val + 256 * item.val := by
    rw [h, toNat_ofNat_word (by omega)]
  have hslot : field (s.engine.takenOperands.get 0) 0 3 = n.val := by
    rw [field_eq, hw]
    omega
  have hitem : field (s.engine.takenOperands.get 0) 8 3 = item.val := by
    rw [field_eq, hw]
    omega
  have hin : within (s.engine.takenOperands.get 0) 0x707 = true := by
    rw [within_iff_gaps [(3, 5), (11, 21)] _ (by decide)]
    simp only [List.forall_mem_cons, List.not_mem_nil, false_implies, implies_true, and_true, field_eq, hw]
    omega
  simpa [profileOperands, hslot, hitem] using hin

theorem exec_profileRead {s : State} {n : SlotIx} {item : Fin 7} (h : executing 0x11 s)
    (ha : operand s 0 (n.val + 256 * item.val)) :
    exec .profileRead s = .next ((readProfile s.quiet (n, item)).result s.quiet) :=
  taken_checked (c := .profileRead) readProfile h (profileOperands_of_operand ha)

theorem readProfile_of_noProfile {s : State} {n : SlotIx} {item : Fin 7} (h : (s.slots.get n).profile = none) :
    readProfile s (n, item) = .refuse .noProfile := by
  simp only [readProfile, h]

/-- Item 0 is the identity, every other item the request before it. -/
theorem readProfile_of_profile {s : State} {n : SlotIx} {item : Fin 7} {p : Profile}
    (h : (s.slots.get n).profile = some p) :
    (item.val = 0 → readProfile s (n, item) = .finish .ok (identityWords p) s) ∧
    ∀ q : Fin 6, item.val = q.val + 1 →
      (p.requests[q.val]? = none → readProfile s (n, item) = .refuse .badOperand) ∧
      ∀ r, p.requests[q.val]? = some r →
        readProfile s (n, item) = .finish .ok (requestWords q r (s.granting n q)) s := by
  constructor
  · intro hitem
    simp only [readProfile, h, hitem, dif_pos]
  · intro q hitem
    have hne : ¬item.val = 0 := by omega
    have hval : item.val - 1 = q.val := by omega
    constructor
    · intro hnone
      simp only [readProfile, h, hne, dif_neg, not_false_eq_true, hval, hnone]
    · intro r hr
      simp only [readProfile, h, hne, dif_neg, not_false_eq_true, hval, hr, Fin.eta]

/-- The result words of PROFILE_READ for item 0: the identity fields at their places. -/
theorem reads_identityWords {p : Profile} (h : p.requests.length ≤ 6) :
    reads (identityWords p) 0 (p.vendorCode.toNat + 65536 * p.moduleKind.toNat) ∧
      reads (identityWords p) 1 (p.revision.toNat + 256 * p.powerUnits.toNat + 65536 * p.attentionMask.toNat
        + 2 ^ 24 * p.hardwareBuild.toNat) ∧
      reads (identityWords p) 2 p.serial.toNat ∧ reads (identityWords p) 3 p.requests.length := by
  have hvendor : Packs (place p.vendorCode.toNat 0 16) 16 p.vendorCode.toNat :=
    Packs.place_zero p.vendorCode.isLt (by decide)
  have hrevision : Packs (place p.revision.toNat 0 8) 8 p.revision.toNat :=
    Packs.place_zero p.revision.isLt (by decide)
  have hunits := hrevision.or_place (lo := 8) le_rfl p.powerUnits.isLt (by decide)
  have hmask := hunits.or_place (lo := 16) le_rfl p.attentionMask.isLt (by decide)
  have hcount : Packs (place p.requests.length 0 3) 3 p.requests.length := Packs.place_zero (by omega) (by decide)
  exact ⟨(hvendor.or_place (lo := 16) le_rfl p.moduleKind.isLt (by decide)).1,
    (hmask.or_place (lo := 24) le_rfl p.hardwareBuild.isLt (by decide)).1, rfl, hcount.1⟩

/-- The result words of PROFILE_READ for a request: its fields and its grant at their places. -/
theorem reads_requestWords {q : Fin 6} {r : Request} {grant : Option WinIx} (h : r.inRange = true) :
    reads (requestWords q r grant) 0 (q.val + 16 * kindNumber r.kind + 32 * bit r.writable + 256 * r.alignment
        + grant.elim 0 fun w => 2 ^ 15 + 65536 * w.val) ∧
      reads (requestWords q r grant) 1 r.pages ∧ reads (requestWords q r grant) 2 r.base ∧
      reads (requestWords q r grant) 3 0 := by
  obtain ⟨halign, hpages, hmax, hbase⟩ := of_decide_eq_true h
  simp only [Config.maxPages, Config.modulePages] at hmax hbase
  have hindex : Packs (place q.val 0 3) 3 q.val := Packs.place_zero (by omega) (by decide)
  have hkind := hindex.or_place (lo := 4) (len := 1) (by decide) (kindNumber_lt r.kind) (by decide)
  have hwritable := hkind.or_flag (k := 5) r.writable (by decide) (by decide)
  have halignPlace := hwritable.or_place (lo := 8) (len := 5) (v := r.alignment) (by decide) (by omega) (by decide)
  have hpagesPlace : Packs (place r.pages 0 17) 17 r.pages := Packs.place_zero (by omega) (by decide)
  have hbasePlace : Packs (place r.base 0 20) 20 r.base := Packs.place_zero (by omega) (by decide)
  simp only [reads, requestWords, words_get_zero, words_get_one, words_get_two, words_get_three, Kind.code_eq]
  refine ⟨?_, hpagesPlace.1, hbasePlace.1, rfl⟩
  cases grant with
  | none => simpa using halignPlace.1
  | some w =>
    have hgrant := (halignPlace.or_flag (k := 15) true (by decide) (by decide)).or_place (lo := 16) (len := 6)
      (by decide) w.isLt (by decide)
    simpa [BitVec.or_assoc, Nat.add_assoc] using hgrant.1

/-- The search for a granting window finds the one that grants, or none. -/
theorem State.granting_eq {s : State} {n : SlotIx} {q : Fin 6} {grant : Option WinIx}
    (h : ∀ w, (s.windows.get w).grants n q = true ↔ grant = some w) : s.granting n q = grant := by
  cases grant with
  | none =>
    rw [State.granting, find_finRange_eq_none]
    exact fun w => Bool.eq_false_iff.2 fun hw => nomatch (h w).1 hw
  | some w =>
    rw [State.granting_eq_some]
    refine ⟨(h w).2 rfl, fun j hj => Bool.eq_false_iff.2 fun hg => ?_⟩
    exact absurd (Option.some.inj ((h j).1 hg)) (Fin.ne_of_gt hj)

/-! ### SLOT_ADMIT, SLOT_EJECT, SLOT_RECOVER and SLOT_CLEAR_POSTED -/

theorem exec_slotAdmit {s : State} {n : SlotIx} (h : executing 0x12 s) (hn : operand s 0 n.val) :
    exec .slotAdmit s = .next ((admitSlot s.quiet n).result s.quiet) :=
  taken_checked (c := .slotAdmit) admitSlot h (slotOperand_of_operand hn)

theorem exec_slotEject {s : State} {n : SlotIx} (h : executing 0x13 s) (hn : operand s 0 n.val) :
    exec .slotEject s = .next ((ejectSlot s.quiet n).result s.quiet) :=
  taken_checked (c := .slotEject) ejectSlot h (slotOperand_of_operand hn)

theorem exec_slotRecover {s : State} {n : SlotIx} (h : executing 0x14 s) (hn : operand s 0 n.val) :
    exec .slotRecover s = .next ((recoverSlot s.quiet n).result s.quiet) :=
  taken_checked (c := .slotRecover) recoverSlot h (slotOperand_of_operand hn)

/-- SLOT_ADMIT, its checks in order (R57). -/
theorem admitSlot_eq (s : State) (n : SlotIx) :
    (slotBusy s n → admitSlot s n = .refuse .targetBusy) ∧
    (¬slotBusy s n →
      ((s.slots.get n).state ≠ .identified → admitSlot s n = .refuse .slotState) ∧
      ((s.slots.get n).state = .identified →
        admitSlot s n =
          if s.committed + (s.slots.get n).powerUnits.toNat > s.config.budget then .refuse .noPower
          else
            deferred s (.admission n) fun _ s' =>
              s'.putSlot n ((s'.slots.get n).startAdmission s'.config (s'.powerGood.get n)))) := by
  unfold admitSlot
  rw [← State.slotTicket_iff]
  refine ⟨fun hbusy => if_pos hbusy, fun hbusy => ⟨fun hstate => ?_, fun hstate => ?_⟩⟩
  · rw [if_neg hbusy, if_pos hstate]
  · rw [if_neg hbusy, if_neg (not_not.2 hstate)]

/-- SLOT_EJECT, its checks in order (R66). -/
theorem ejectSlot_eq (s : State) (n : SlotIx) :
    (slotBusy s n → ejectSlot s n = .refuse .targetBusy) ∧
    (¬slotBusy s n →
      ((s.slots.get n).state ≠ .active → ejectSlot s n = .refuse .slotState) ∧
      ((s.slots.get n).state = .active →
        ejectSlot s n =
          deferred s (.ejection n) fun _ s' =>
            ((s'.putSlot n { s'.slots.get n with state := .ejecting }).eachWindow
              (Window.leaveActive n)).testQuiesce n)) := by
  unfold ejectSlot
  rw [← State.slotTicket_iff]
  refine ⟨fun hbusy => if_pos hbusy, fun hbusy => ⟨fun hstate => ?_, fun hstate => ?_⟩⟩
  · rw [if_neg hbusy, if_pos hstate]
  · rw [if_neg hbusy, if_neg (not_not.2 hstate)]

theorem SlotState.recoverable_iff (x : SlotState) :
    x.recoverable = true ↔ x = .identified ∨ ∃ cause, x = .faulted cause := by
  cases x <;> simp [SlotState.recoverable]

/-- What SLOT_RECOVER does before the slot joins the queue: its STAGED windows freed, its profile discarded (R24,
R71). -/
def State.recovering (s : State) (n : SlotIx) : State :=
  (s.eachWindow (Window.recover n)).putSlot n { s.slots.get n with state := .queued, profile := none }

@[simp] theorem State.recovering_ident (s : State) (n : SlotIx) : (s.recovering n).ident = s.ident := by
  simp [State.recovering]

@[simp] theorem State.recovering_identQueue (s : State) (n : SlotIx) : (s.recovering n).identQueue = s.identQueue := by
  simp [State.recovering]

@[simp] theorem allocated_identQueue (k : Fin 8) (op : TicketOp) (s : State) :
    (allocated k op s).identQueue = s.identQueue := rfl

@[simp] theorem allocated_ident (k : Fin 8) (op : TicketOp) (s : State) : (allocated k op s).ident = s.ident := rfl

/-- SLOT_RECOVER, its checks in order (R71). -/
theorem recoverSlot_eq (s : State) (n : SlotIx) :
    (slotBusy s n → recoverSlot s n = .refuse .targetBusy) ∧
    (¬slotBusy s n →
      ((s.slots.get n).state.recoverable = false → recoverSlot s n = .refuse .slotState) ∧
      ((s.slots.get n).state.recoverable = true →
        recoverSlot s n =
          deferred s (.recovery n) fun _ s' => (s'.recovering n).enqueueIdent n)) := by
  unfold recoverSlot
  rw [← State.slotTicket_iff]
  refine ⟨fun hbusy => if_pos hbusy, fun hbusy => ⟨fun hstate => ?_, fun hstate => ?_⟩⟩
  · rw [if_neg hbusy, if_neg (Bool.eq_false_iff.1 hstate)]
  · rw [if_neg hbusy, if_pos hstate]
    rfl

theorem powerMicros_eq (x : PowerTimeout) : Config.powerMicros x = powerDuration x := by
  cases x <;> rfl

/-- The slot record an admission starts with, when the profile is held (R57, R58). -/
theorem Slot.startAdmission_eq {r : Slot} {p : Profile} (h : r.profile = some p) (config : PartConfig) (good : Bool) :
    r.startAdmission config good =
      { r with
        state := .powering
        committedUnits := p.powerUnits
        mainPower := true
        powerTimer := some (if good then .qualifying 1000 else .waiting (powerDuration config.power)) } := by
  rw [Slot.startAdmission, Slot.powerUnits, h, powerMicros_eq]
  rfl

/-! ### The quiesce test (R68) -/

theorem LinkTag.dropStale_eq (t : LinkTag) : t.dropStale = keptAtQuiesce t := by
  cases t <;> rfl

/-- The quiesce test is the test of the condition as the rules write it. -/
theorem State.quiesceHolds_iff (s : State) (n : SlotIx) : s.quiesceHolds n = true ↔ quiesceMet s n := by
  simp only [State.quiesceHolds, Bool.and_eq_true, beq_iff_eq, List.all_eq_true, List.mem_finRange, true_implies,
    Bool.or_eq_true, Bool.not_eq_true', and_assoc, quiesceMet]
  refine and_congr_right' (and_congr_right' (and_congr_left' (forall_congr' fun w => ?_)))
  cases (s.windows.get w).ofSlot n <;> simp

/-- The quiesce test, its effect written out. -/
theorem State.testQuiesce_eq_quiesceTested (s : State) (n : SlotIx) : s.testQuiesce n = quiesceTested n s := by
  have htags : LinkTag.dropStale = keptAtQuiesce := funext LinkTag.dropStale_eq
  obtain ⟨hmet, hnot⟩ := s.testQuiesce_eq n
  by_cases h : quiesceMet s n
  · rw [hmet ((s.quiesceHolds_iff n).2 h), quiesceTested, if_pos h, htags]
    rfl
  · rw [hnot (Bool.eq_false_iff.2 (h ∘ (s.quiesceHolds_iff n).1)), quiesceTested, if_neg h]

/-- The completion of a command touches nothing the quiesce test reads or writes. -/
theorem quiesceTested_complete (s : State) (n : SlotIx) (code : ResultCode) (results : Tbl 4 Word) :
    (quiesceTested n s).complete code results = quiesceTested n (s.complete code results) := by
  by_cases h : quiesceMet s n
  · have h' : quiesceMet (s.complete code results) n := h
    rw [quiesceTested, if_pos h, quiesceTested, if_pos h']
    rfl
  · have h' : ¬quiesceMet (s.complete code results) n := h
    rw [quiesceTested, if_neg h, quiesceTested, if_neg h']

/-! ### The Identification Queue served (R76) -/

/-- A controller made IDLE serves the head of the queue. -/
theorem State.identIdle_eq (s : State) : s.identIdle = servingNext s := by
  obtain ⟨hserve, hempty⟩ := (s.putIdent .idle).serveIdent_eq
  unfold servingNext
  split <;> rename_i h
  · exact hempty (.inr h)
  · exact hserve _ _ rfl h

/-- An IDLE controller serves the head of the queue. -/
theorem State.serveIdent_of_idle {s : State} (h : s.ident = .idle) : s.serveIdent = servingNext s := by
  have hput : s.putIdent .idle = s := by rw [← h]; rfl
  rw [← State.identIdle_eq, State.identIdle, hput]

/-- A slot that joins the queue of a busy controller waits at its tail. -/
theorem State.enqueueIdent_of_busy (s : State) (n : SlotIx) (h : s.ident ≠ .idle) :
    s.enqueueIdent n = { s with identQueue := s.identQueue ++ [n] } :=
  (s.putIdentQueue (s.identQueue ++ [n])).serveIdent_eq.2 (.inl h)

/-- A slot that joins the queue of an IDLE controller lets it serve its head. -/
theorem State.enqueueIdent_of_idle (s : State) (n : SlotIx) (h : s.ident = .idle) :
    s.enqueueIdent n = servingNext { s with identQueue := s.identQueue ++ [n] } :=
  State.serveIdent_of_idle (s := s.putIdentQueue (s.identQueue ++ [n])) h

/-- The completion of a command touches nothing that serving the queue reads or writes. -/
theorem servingNext_complete (s : State) (code : ResultCode) (results : Tbl 4 Word) :
    (servingNext s).complete code results = servingNext (s.complete code results) := by
  unfold servingNext
  rw [State.complete_identQueue]
  split <;> rfl

/-! ### TICKET_READ and TICKET_COLLECT (R144, R145) -/

section

variable {s : State} {sequence : Fin 32} {k : Fin 8}

/-- The id of a sequence and an index of a record. -/
theorem ticketIndex_of_parts (sequence : Fin 32) (k : Fin 8) : ticketIndex (sequence.val * 8 + k.val) = k :=
  ticketIndex_id { sequence, body := .free } k

/-- An id names its record exactly when the record is not FREE and holds the sequence (R140). -/
theorem State.namedTicket_eq (s : State) (sequence : Fin 32) (k : Fin 8) :
    s.namedTicket (sequence.val * 8 + k.val) =
      if (s.tickets.get k).body ≠ .free ∧ (s.tickets.get k).sequence = sequence then some k else none := by
  have hid : (s.tickets.get k).id k = sequence.val * 8 + k.val ↔ (s.tickets.get k).sequence = sequence := by
    rw [Ticket.id, Fin.ext_iff]
    omega
  simp only [State.namedTicket, ticketIndex_of_parts, hid]

theorem State.namedTicket_of_other (h : (s.tickets.get k).body = .free ∨ (s.tickets.get k).sequence ≠ sequence) :
    s.namedTicket (sequence.val * 8 + k.val) = none := by
  rw [State.namedTicket_eq, if_neg]
  rintro ⟨hbody, hsequence⟩
  exact h.elim hbody (· hsequence)

theorem State.namedTicket_of_current (hbody : (s.tickets.get k).body ≠ .free)
    (hsequence : (s.tickets.get k).sequence = sequence) : s.namedTicket (sequence.val * 8 + k.val) = some k := by
  rw [State.namedTicket_eq, if_pos ⟨hbody, hsequence⟩]

theorem exec_ticketRead (h : executing 0x30 s) (hid : operand s 0 (sequence.val * 8 + k.val)) :
    exec .ticketRead s = .next ((readTicket s.quiet (sequence.val * 8 + k.val)).result s.quiet) :=
  taken_checked (c := .ticketRead) readTicket h (ticketOperand_of_operand hid (by omega))

theorem exec_ticketCollect (h : executing 0x31 s) (hid : operand s 0 (sequence.val * 8 + k.val)) :
    exec .ticketCollect s = .next ((collectTicket s.quiet (sequence.val * 8 + k.val)).result s.quiet) :=
  taken_checked (c := .ticketCollect) collectTicket h (ticketOperand_of_operand hid (by omega))

end

theorem TicketOp.code_eq (op : TicketOp) : op.code = ticketKindNumber op := by
  cases op <;> rfl

theorem TicketOp.target_eq (op : TicketOp) : op.target = ticketTargetNumber op := by
  cases op <;> rfl

theorem TicketOutcome.code_eq (x : TicketOutcome) : x.code = outcomeNumber x := by
  cases x <;> rfl

theorem TicketDetail.code_eq (x : TicketDetail) : x.code = detailNumber x := by
  cases x with
  | staged | free => rfl
  | fault c => exact c.code_eq

theorem ticketKindNumber_lt (op : TicketOp) : ticketKindNumber op < 2 ^ 2 := by
  cases op <;> simp [ticketKindNumber]

theorem ticketTargetNumber_lt (op : TicketOp) : ticketTargetNumber op < 2 ^ 6 := by
  cases op <;> simp only [ticketTargetNumber] <;> omega

theorem outcomeNumber_lt (x : TicketOutcome) : outcomeNumber x < 2 ^ 3 := by
  cases x <;> simp [outcomeNumber]

theorem detailNumber_lt (x : TicketDetail) : detailNumber x < 2 ^ 4 := by
  cases x with
  | staged | free => decide
  | fault c => exact faultNumber_lt c

/-- The state, the kind and the target of a ticket, in the low bits of word 0 of TICKET_READ. -/
theorem Packs.ticket {v : Nat} (hv : v < 2 ^ 2) (op : TicketOp) :
    Packs (place v 0 2 ||| place op.code 4 2 ||| place op.target 8 6) 14
      (v + 16 * ticketKindNumber op + 256 * ticketTargetNumber op) := by
  rw [TicketOp.code_eq, TicketOp.target_eq]
  exact ((Packs.place_zero hv (by decide)).or_place (lo := 4) (by decide) (ticketKindNumber_lt op)
    (by decide)).or_place (lo := 8) (by decide) (ticketTargetNumber_lt op) (by decide)

theorem ticketReadWords_opened (op : TicketOp) :
    ticketReadWords (.opened op) =
      some (oneWord (1 + 16 * ticketKindNumber op + 256 * ticketTargetNumber op)) :=
  congrArg some (words_eq_oneWord (Packs.ticket (by decide) op).1)

theorem ticketReadWords_finished (op : TicketOp) (outcome : TicketOutcome) (detail : Option TicketDetail) :
    ticketReadWords (.finished op outcome detail) =
      some (oneWord (2 + 16 * ticketKindNumber op + 256 * ticketTargetNumber op + 65536 * outcomeNumber outcome
        + 2 ^ 24 * detail.elim 0 detailNumber)) := by
  have hdetail : detail.elim 0 TicketDetail.code = detail.elim 0 detailNumber := by
    cases detail with
    | none => rfl
    | some x => exact x.code_eq
  have hlt : detail.elim 0 detailNumber < 2 ^ 4 := by
    cases detail with
    | none => decide
    | some x => exact detailNumber_lt x
  rw [ticketReadWords, hdetail, TicketOutcome.code_eq]
  exact congrArg some (words_eq_oneWord (((Packs.ticket (by decide) op).or_place (lo := 16) (by decide)
    (outcomeNumber_lt outcome) (by decide)).or_place (lo := 24) (by decide) hlt (by decide)).1)

/-- TICKET_READ of a record that the id names. -/
theorem readTicket_of_words {s : State} {id : Nat} {k : Fin 8} {w : Tbl 4 Word} (hnamed : s.namedTicket id = some k)
    (hw : ticketReadWords (s.tickets.get k).body = some w) : readTicket s id = .finish .ok w s := by
  simp only [readTicket, hnamed, hw]

/-! ### How the commands end (R133) -/

/-- The command ends with a refusal of its own, or with OK, or ACCEPTED if deferred. -/
def Completion.fitsCommand (c : Command) : Completion → Prop
  | .refuse code => code ∈ refusals c
  | .finish code _ _ => code = if isDeferred c then .accepted else .ok

theorem refuse_fits {c : Command} {code : ResultCode} (h : code ∈ refusals c := by decide) :
    (Completion.refuse code).fitsCommand c := h

theorem checked_fits {α : Type} {c : Command} {operands : Option α} {body : α → Completion}
    (hrefuse : ResultCode.badOperand ∈ refusals c) (h : ∀ x, (body x).fitsCommand c) :
    (checked operands body).fitsCommand c := by
  cases operands with
  | none => exact hrefuse
  | some x => exact h x

theorem deferred_fits {c : Command} {s : State} {op : TicketOp} {start : Nat → State → State}
    (hrefuse : ResultCode.noTicket ∈ refusals c) (hdeferred : isDeferred c = true) :
    (deferred s op start).fitsCommand c := by
  unfold deferred
  split
  · exact hrefuse
  · exact (if_pos hdeferred).symm

section

variable (s : State)

theorem stageAt_fits (window : Option WinIx) (m : Mapping) : (stageAt window m s).fitsCommand .winStage := by
  unfold stageAt State.stageIndex
  cases window with
  | none =>
    cases s.freeWindow with
    | none => exact refuse_fits
    | some w =>
      simp only
      split
      · exact refuse_fits
      · rfl
  | some w =>
    by_cases hfree : s.windows.get w = .free
    · simp only [hfree, if_true]
      split
      · exact refuse_fits
      · rfl
    · simp only [hfree, if_false]
      exact refuse_fits

theorem stageGranted_fits (o : StageOperands) (q : Fin 6) (r : Request) :
    (stageGranted o q r s).fitsCommand .winStage := by
  unfold stageGranted
  split
  · exact refuse_fits
  · split_ifs
    · exact refuse_fits
    · exact refuse_fits
    · exact refuse_fits
    · exact stageAt_fits s _ _

theorem stageWindow_fits (o : StageOperands) : (stageWindow s o).fitsCommand .winStage := by
  unfold stageWindow stageHostDefined
  split
  · exact refuse_fits
  · split
    · split_ifs
      · exact refuse_fits
      · exact stageAt_fits s _ _
    · split
      · exact refuse_fits
      · exact stageGranted_fits s _ _ _

theorem openWindow_fits (w : WinIx) : (openWindow s w).fitsCommand .winOpen := by
  unfold openWindow
  split
  · split_ifs
    · rfl
    · exact refuse_fits
  · exact refuse_fits

theorem closeWindow_fits (w : WinIx) : (closeWindow s w).fitsCommand .winClose := by
  unfold closeWindow
  split_ifs
  · exact refuse_fits
  · split
    · exact deferred_fits (by decide) rfl
    · exact refuse_fits

theorem releaseWindow_fits (w : WinIx) : (releaseWindow s w).fitsCommand .winRelease := by
  unfold releaseWindow
  cases s.windows.get w with
  | free | opened => exact refuse_fits
  | staged | closing => rfl

theorem readProfile_fits (a : SlotIx × Fin 7) : (readProfile s a).fitsCommand .profileRead := by
  unfold readProfile
  split
  · exact refuse_fits
  · split_ifs
    · rfl
    · simp only
      split
      · exact refuse_fits
      · rfl

theorem admitSlot_fits (n : SlotIx) : (admitSlot s n).fitsCommand .slotAdmit := by
  unfold admitSlot
  split_ifs
  · exact refuse_fits
  · exact refuse_fits
  · exact refuse_fits
  · exact deferred_fits (by decide) rfl

theorem ejectSlot_fits (n : SlotIx) : (ejectSlot s n).fitsCommand .slotEject := by
  unfold ejectSlot
  split_ifs
  · exact refuse_fits
  · exact refuse_fits
  · exact deferred_fits (by decide) rfl

theorem recoverSlot_fits (n : SlotIx) : (recoverSlot s n).fitsCommand .slotRecover := by
  unfold recoverSlot
  split_ifs
  · exact refuse_fits
  · exact deferred_fits (by decide) rfl
  · exact refuse_fits

theorem readTicket_fits (id : Nat) : (readTicket s id).fitsCommand .ticketRead := by
  unfold readTicket
  split
  · exact refuse_fits
  · split
    · exact refuse_fits
    · rfl

theorem collectTicket_fits (id : Nat) : (collectTicket s id).fitsCommand .ticketCollect := by
  unfold collectTicket
  split
  · exact refuse_fits
  · split
    · rfl
    · exact refuse_fits

theorem configurePart_fits (c : PartConfig) : (configurePart s c).fitsCommand .partConfig := by
  unfold configurePart
  split
  · exact refuse_fits
  · rfl

/-- Every command ends as its row of the table of result codes says. -/
theorem commandBody_fits (c : Command) (o : Tbl 4 Word) : (commandBody c o s).fitsCommand c := by
  cases c with
  | nop | partConfigRead => rfl
  | winRead | winLookup | slotRead | slotClearPosted | srcRoute | srcRead =>
    exact checked_fits (by decide) fun _ => rfl
  | winStage => exact checked_fits (by decide) (stageWindow_fits s)
  | winOpen => exact checked_fits (by decide) (openWindow_fits s)
  | winClose => exact checked_fits (by decide) (closeWindow_fits s)
  | winRelease => exact checked_fits (by decide) (releaseWindow_fits s)
  | profileRead => exact checked_fits (by decide) (readProfile_fits s)
  | slotAdmit => exact checked_fits (by decide) (admitSlot_fits s)
  | slotEject => exact checked_fits (by decide) (ejectSlot_fits s)
  | slotRecover => exact checked_fits (by decide) (recoverSlot_fits s)
  | ticketRead => exact checked_fits (by decide) (readTicket_fits s)
  | ticketCollect => exact checked_fits (by decide) (collectTicket_fits s)
  | partConfig => exact checked_fits (by decide) (configurePart_fits s)

/-- A completed command has raised CMD_DONE (R129). -/
theorem State.complete_cmdDone (code : ResultCode) (results : Tbl 4 Word) :
    ((s.complete code results).sources.get 16).causes.getLsbD 0 = true := by
  have hsource : ((s.complete code results).sources.get 16).causes = (s.sources.get 16).causes ||| 0x01 :=
    congrArg Source.causes ((Tbl.get_put _ _ _ _).trans (if_pos rfl))
  rw [hsource, BitVec.getLsbD_or]
  exact Bool.or_true _

end

end Sys2Proof.Machine

/-! ### The obligations -/

namespace Sys2Proof.Commands

-- One proof at a time: side by side they take more threads than the check's memory limit allows.
set_option Elab.async false

open Sys2Proof.Machine Sys2Proof.Expected

/-- Settles O24: the body of NOP leaves the state as it is. -/
theorem nopCompletes : Obligations.NopCompletes := fun _ hexec => exec_completion_of_executing (c := .nop) hexec

/-- Settles O27: the window's state, then the slot's. -/
theorem winOpenOpensStaged : Obligations.WinOpenOpensStaged := by
  intro s w hexec hw
  obtain ⟨hother, hstaged⟩ := openWindow_eq s.quiet w
  rw [exec_winOpen hexec hw]
  constructor
  · intro h
    rw [hother h, result_refuse_quiet]
  intro m hm
  rw [hstaged m hm, State.quiet_slots]
  constructor
  · intro hslot
    rw [if_neg hslot, result_refuse_quiet]
  · intro hslot
    rw [if_pos hslot, result_finish_putWindow]
    rfl

/-- Settles O28: the checks in order, then the close with references or the drain in the same step. -/
theorem winCloseOpensTicket : Obligations.WinCloseOpensTicket := by
  intro s w hexec hw
  obtain ⟨hbusy, hfree⟩ := closeWindow_eq s.quiet w
  have hrun := exec_winClose hexec hw
  constructor
  · intro hopen
    rw [hrun, hbusy hopen, result_refuse_quiet]
  intro hopen
  obtain ⟨hother, hopened⟩ := hfree hopen
  constructor
  · intro h
    rw [hrun, hother h, result_refuse_quiet]
  intro m refs hm
  rw [hopened m refs hm] at hrun
  obtain ⟨hnone, hsome⟩ := completes_deferred hrun
  refine ⟨hnone, fun k hk => ⟨fun hrefs => ?_, ?_⟩⟩
  · rw [hsome k hk, State.startClose_of_refs w m _ hrefs]
    rfl
  · rintro rfl
    have hticket : (allocated k (.close w) s.quiet).tickets.get k = (s.tickets.get k).allocate (.close w) :=
      (Tbl.get_put _ _ _ _).trans (if_pos rfl)
    have hid : ((allocated k (.close w) s.quiet).tickets.get k).id k = nextId s k := congrArg (Ticket.id · k) hticket
    have hbody : ((allocated k (.close w) s.quiet).tickets.get k).body = .opened (.close w) :=
      congrArg Ticket.body hticket
    rw [hsome k hk, State.startClose_of_noRefs m (nextId s k) hid hbody, State.raise_complete, hticket]
    simp only [State.putTicket, State.putWindow, allocated, put_put_same]
    rfl

/-- Settles O32: each field of the record stands at its place, and the OPEN ticket is the one given. -/
theorem slotReadReturnsRecord : Obligations.SlotReadReturnsRecord := by
  intro s n ticket hexec hn hrequests htags hticket
  refine ⟨_, exec_slotRead hexec hn, ?_⟩
  have hlt : ∀ id, s.slotTicketId n = some id → id < 2 ^ 8 := by
    intro id hid
    rw [State.slotTicketId_eq hticket, Option.map_eq_some_iff] at hid
    obtain ⟨k, -, rfl⟩ := hid
    exact Ticket.id_lt _ k
  obtain ⟨h0, h1, h2, h3⟩ := reads_slotReadWords hrequests htags hlt
  refine ⟨h0, ?_, h2, h3⟩
  rw [State.slotTicketId_eq hticket] at h1 ⊢
  cases ticket with
  | none => exact h1
  | some k => exact h1

/-- Settles O33: the identity for item 0, the request before it for every other item. -/
theorem profileReadReturnsItem : Obligations.ProfileReadReturnsItem := by
  intro s n item hexec ha
  have hrun := exec_profileRead hexec ha
  constructor
  · intro hprofile
    rw [hrun, readProfile_of_noProfile (s := s.quiet) hprofile, result_refuse_quiet]
  intro p hprofile hrange
  rw [Profile.inRange, Bool.and_eq_true, decide_eq_true_eq, List.all_eq_true] at hrange
  obtain ⟨hlength, hrequests⟩ := hrange
  obtain ⟨hidentity, hrequest⟩ := readProfile_of_profile (s := s.quiet) (item := item) hprofile
  refine ⟨fun hbeyond => ?_, fun hitem => ?_, fun q r grant hitem hr hgrant => ?_⟩
  · have hitem : item.val = (⟨item.val - 1, by omega⟩ : Fin 6).val + 1 := by simp only; omega
    have hnone : p.requests[item.val - 1]? = none := List.getElem?_eq_none (by omega)
    rw [hrun, (hrequest _ hitem).1 hnone, result_refuse_quiet]
  · refine ⟨identityWords p, ?_, reads_identityWords hlength⟩
    rw [hrun, hidentity hitem, result_finish_quiet]
  · refine ⟨requestWords q r grant, ?_, reads_requestWords (hrequests r (List.mem_of_getElem? hr))⟩
    rw [hrun, (hrequest q hitem).2 r hr, State.granting_eq (s := s.quiet) hgrant, result_finish_quiet]

/-- Settles O34: the checks in order, then the slot record an admission starts with. -/
theorem slotAdmitPowersModule : Obligations.SlotAdmitPowersModule := by
  intro s n hexec hn
  obtain ⟨hbusy, hfree⟩ := admitSlot_eq s.quiet n
  have hrun := exec_slotAdmit hexec hn
  constructor
  · intro h
    rw [hrun, hbusy h, result_refuse_quiet]
  intro h
  obtain ⟨hother, hidentified⟩ := hfree h
  constructor
  · intro hstate
    rw [hrun, hother hstate, result_refuse_quiet]
  intro p hstate hprofile
  rw [hidentified hstate] at hrun
  have hunits : (s.quiet.slots.get n).powerUnits = p.powerUnits := by
    rw [Slot.powerUnits, State.quiet_slots, hprofile]
    rfl
  rw [hunits] at hrun
  constructor
  · intro hover
    have hover : s.quiet.committed + p.powerUnits.toNat > s.quiet.config.budget := hover
    rw [hrun, if_pos hover, result_refuse_quiet]
  intro hbudget
  have hunder : ¬s.quiet.committed + p.powerUnits.toNat > s.quiet.config.budget := Nat.not_lt.2 hbudget
  rw [if_neg hunder] at hrun
  obtain ⟨hnone, hsome⟩ := completes_deferred hrun
  refine ⟨hnone, fun k hk => ?_⟩
  have hslot : ((allocated k (.admission n) s.quiet).slots.get n).profile = some p := hprofile
  rw [hsome k hk, Slot.startAdmission_eq hslot]
  rfl

/-- Settles O35: the checks in order, then the windows out of OPEN and the quiesce test. -/
theorem slotEjectClosesWindows : Obligations.SlotEjectClosesWindows := by
  intro s n hexec hn
  obtain ⟨hbusy, hfree⟩ := ejectSlot_eq s.quiet n
  have hrun := exec_slotEject hexec hn
  constructor
  · intro h
    rw [hrun, hbusy h, result_refuse_quiet]
  intro h
  obtain ⟨hother, hactive⟩ := hfree h
  constructor
  · intro hstate
    rw [hrun, hother hstate, result_refuse_quiet]
  intro hstate
  rw [hactive hstate] at hrun
  obtain ⟨hnone, hsome⟩ := completes_deferred hrun
  refine ⟨hnone, fun k hk => ?_⟩
  have hwindow : Window.leaveActive n = fun x =>
      match x with
      | .opened m refs => if m.slot = n then (if refs = 0 then .staged m else .closing m refs .toStaged none) else x
      | _ => x := by
    funext x
    cases x <;> rfl
  rw [hsome k hk, State.testQuiesce_eq_quiesceTested, quiesceTested_complete, hwindow]
  rfl

/-- Settles O36: the checks in order, then the slot at the tail of the queue, or in service at once. -/
theorem slotRecoverQueuesSlot : Obligations.SlotRecoverQueuesSlot := by
  intro s n hexec hn
  obtain ⟨hbusy, hfree⟩ := recoverSlot_eq s.quiet n
  have hrun := exec_slotRecover hexec hn
  constructor
  · intro h
    rw [hrun, hbusy h, result_refuse_quiet]
  intro h
  obtain ⟨hother, hrecoverable⟩ := hfree h
  constructor
  · intro hidentified hfaulted
    have hstate : (s.slots.get n).state.recoverable = false := by
      rw [Bool.eq_false_iff, Ne, SlotState.recoverable_iff]
      rintro (hstate | ⟨cause, hstate⟩)
      · exact hidentified hstate
      · exact hfaulted cause hstate
    rw [hrun, hother hstate, result_refuse_quiet]
  intro hstate
  rw [hrecoverable ((SlotState.recoverable_iff _).2 hstate)] at hrun
  obtain ⟨hnone, hsome⟩ := completes_deferred hrun
  refine ⟨hnone, fun k hk => ?_⟩
  have hwindow : Window.recover n = fun x =>
      (match x with | .staged m => if m.slot = n then .free else x | _ => x) := by
    funext x
    cases x <;> rfl
  have hsame : ((allocated k (.recovery n) s.quiet).recovering n).ident = s.ident := by simp
  have hqueue : ((allocated k (.recovery n) s.quiet).recovering n).identQueue = s.identQueue := by simp
  constructor
  · intro hident
    have hbusy : ((allocated k (.recovery n) s.quiet).recovering n).ident ≠ .idle := by rwa [hsame]
    rw [hsome k hk, State.enqueueIdent_of_busy _ n hbusy, hqueue]
    simp only [State.recovering, State.eachWindow, State.putSlot, hwindow]
    rfl
  · intro hident _
    rw [hsome k hk, State.enqueueIdent_of_idle _ n (hsame.trans hident), hqueue, servingNext_complete]
    simp only [State.recovering, State.eachWindow, State.putSlot, hwindow]
    rfl

/-- Settles O37: one field of one slot record is replaced. -/
theorem slotClearPostedClears : Obligations.SlotClearPostedClears := fun _ _ hexec hn =>
  taken_checked (c := .slotClearPosted) clearPosted hexec (slotOperand_of_operand hn)

/-- Settles O40: the record an id names, its fields in word 0, or none. -/
theorem ticketReadReturnsRecord : Obligations.TicketReadReturnsRecord := by
  intro s sequence k hexec hid
  have hrun := exec_ticketRead hexec hid
  constructor
  · intro hother
    have hnamed : s.quiet.namedTicket (sequence.val * 8 + k.val) = none := State.namedTicket_of_other hother
    rw [hrun, readTicket, hnamed, result_refuse_quiet]
  intro hsequence
  have hnamed : (s.tickets.get k).body ≠ .free → s.quiet.namedTicket (sequence.val * 8 + k.val) = some k :=
    fun hbody => State.namedTicket_of_current hbody hsequence
  constructor
  · intro op hbody
    have hwords := ticketReadWords_opened op
    rw [← hbody] at hwords
    rw [hrun, readTicket_of_words (hnamed (by rw [hbody]; exact nofun)) hwords, result_finish_quiet]
  · intro op outcome detail hbody
    have hwords := ticketReadWords_finished op outcome detail
    rw [← hbody] at hwords
    rw [hrun, readTicket_of_words (hnamed (by rw [hbody]; exact nofun)) hwords, result_finish_quiet]

/-- Settles O41: the record an id names, by where it stands. -/
theorem ticketCollectFreesRecord : Obligations.TicketCollectFreesRecord := by
  intro s sequence k hexec hid
  have hrun := exec_ticketCollect hexec hid
  constructor
  · intro hother
    have hnamed : s.quiet.namedTicket (sequence.val * 8 + k.val) = none := State.namedTicket_of_other hother
    rw [hrun, collectTicket, hnamed, result_refuse_quiet]
  intro hsequence
  have hnamed : (s.tickets.get k).body ≠ .free → s.quiet.namedTicket (sequence.val * 8 + k.val) = some k :=
    fun hbody => State.namedTicket_of_current hbody hsequence
  constructor
  · intro op hbody
    have hcollect : collectTicket s.quiet (sequence.val * 8 + k.val) = .refuse .ticketOpen := by
      simp only [collectTicket, hnamed (by rw [hbody]; exact nofun), State.quiet_tickets, hbody]
    rw [hrun, hcollect, result_refuse_quiet]
  · intro op outcome detail hbody
    have hcollect : collectTicket s.quiet (sequence.val * 8 + k.val) =
        .finish .ok noWords (s.quiet.putTicket k { s.tickets.get k with body := .free }) := by
      simp only [collectTicket, hnamed (by rw [hbody]; exact nofun), State.quiet_tickets, hbody]
    rw [hrun, hcollect, ← hsequence]
    rfl

/-- Settles O23: how each command ends, and what a refusal leaves. -/
theorem refusedCommandChangesNothing : Obligations.RefusedCommandChangesNothing := by
  intro c s hexec
  have hfits := commandBody_fits s.quiet c s.engine.takenOperands
  refine ⟨_, _, exec_completion_of_executing hexec, Completion.result_state _ _, ?_⟩
  cases hbody : commandBody c s.engine.takenOperands s.quiet with
  | refuse code =>
    rw [hbody] at hfits
    exact ⟨State.complete_cmdDone _ _ _, .inr (.inr ⟨hfits, rfl⟩)⟩
  | finish code results t =>
    rw [hbody] at hfits
    refine ⟨State.complete_cmdDone _ _ _, ?_⟩
    cases hdeferred : isDeferred c with
    | false => exact .inl ⟨hfits.trans (if_neg (Bool.eq_false_iff.1 hdeferred)), rfl⟩
    | true => exact .inr (.inl ⟨hfits.trans (if_pos hdeferred), rfl⟩)

end Sys2Proof.Commands

/-! PROOFS. The events of slots and links that move one slot (chapters 3 and 5). -/

namespace Sys2Proof.Machine

-- One proof at a time: side by side they take more threads than the check's memory limit allows.
set_option Elab.async false

open Sys2Proof.Expected

/-! ### Tickets ended (R143) -/

/-- A rule that gives the OPEN tickets it ends their outcomes. -/
abbrev Ending := TicketOp → Option (TicketOutcome × Option TicketDetail)

/-- The ticket is OPEN and the rule ends it. -/
def Ticket.ends (ending : Ending) (t : Ticket) : Bool :=
  match t.body with
  | .opened op => (ending op).isSome
  | _ => false

/-- The ticket record after the rule. -/
def Ticket.ended (ending : Ending) (t : Ticket) : Ticket :=
  match t.body with
  | .opened op => (match ending op with | some e => { t with body := .finished op e.1 e.2 } | none => t)
  | _ => t

theorem withOutcomes_eq (ending : Ending) (s : State) :
    withOutcomes ending s =
      withCauses 16 (if (List.finRange 8).any fun k => (s.tickets.get k).ends ending then 0x02 else 0)
        { s with tickets := s.tickets.each fun _ => Ticket.ended ending } := rfl

section

variable {ending : Ending} {t : Ticket} {op : TicketOp}

theorem Ticket.ended_of_none (hbody : t.body = .opened op) (h : ending op = none) : t.ended ending = t := by
  rw [Ticket.ended, hbody]
  simp only [h]

theorem Ticket.ended_of_some {e : TicketOutcome × Option TicketDetail} (hbody : t.body = .opened op)
    (h : ending op = some e) : t.ended ending = { t with body := .finished op e.1 e.2 } := by
  rw [Ticket.ended, hbody]
  simp only [h]

theorem Ticket.ends_iff : t.ends ending = true ↔ ∃ op, t.body = .opened op ∧ (ending op).isSome = true := by
  unfold Ticket.ends
  split
  · rename_i op h
    simp [h]
  · rename_i h
    simpa using fun op hop => absurd hop (h op)

theorem Ticket.ended_of_not_ends (h : t.ends ending = false) : t.ended ending = t := by
  unfold Ticket.ended
  split
  · rename_i op hop
    have hnone : ending op = none := by simpa [Ticket.ends, hop] using h
    rw [hnone]
  · rfl

/-- A ticket that two rules end alike. -/
theorem Ticket.ended_congr {ending' : Ending} (h : ∀ op, t.body = .opened op → ending op = ending' op) :
    t.ends ending = t.ends ending' ∧ t.ended ending = t.ended ending' := by
  unfold Ticket.ends Ticket.ended
  split
  · rename_i op hop
    rw [h op hop]
    exact ⟨rfl, rfl⟩
  · exact ⟨rfl, rfl⟩

end

section

variable {ending : Ending} {s : State}

/-- Where no OPEN ticket ends, nothing happens. -/
theorem withOutcomes_of_none (h : ∀ k, (s.tickets.get k).ends ending = false) : withOutcomes ending s = s := by
  have hkept : (s.tickets.each fun _ => Ticket.ended ending) = s.tickets := Tbl.ext_get fun k => by
    rw [Tbl.get_each, Ticket.ended_of_not_ends (h k)]
  have hends : ((List.finRange 8).any fun k => (s.tickets.get k).ends ending) = false := by simp [h]
  rw [withOutcomes_eq, hkept, hends]
  exact withCauses_zero 16 s

/-- Where the one OPEN ticket that ends is of record `k`, that record is finished and TICKET_DONE raised. -/
theorem withOutcomes_of_one {k : Fin 8} {op : TicketOp} {outcome : TicketOutcome} {detail : Option TicketDetail}
    (hbody : (s.tickets.get k).body = .opened op) (hends : ending op = some (outcome, detail))
    (once : ∀ j, (s.tickets.get j).ends ending = true → j = k) :
    withOutcomes ending s = s.finishTicket k outcome detail := by
  have hput : (s.tickets.each fun _ => Ticket.ended ending) =
      s.tickets.put k { s.tickets.get k with body := .finished op outcome detail } := by
    refine Tbl.ext_get fun j => ?_
    rw [Tbl.get_each, Tbl.get_put]
    split
    · rename_i hj
      rw [hj, Ticket.ended_of_some hbody hends]
    · rename_i hj
      exact Ticket.ended_of_not_ends (Bool.eq_false_iff.2 fun hj' => hj (once j hj'))
  have hany : ((List.finRange 8).any fun k => (s.tickets.get k).ends ending) = true :=
    List.any_eq_true.2 ⟨k, List.mem_finRange k, Ticket.ends_iff.2 ⟨op, hbody, by rw [hends]; rfl⟩⟩
  rw [withOutcomes_eq, (s.finishTicket_eq k outcome detail).1 op hbody, hput, hany]
  rfl

/-- Two rules that end every OPEN ticket alike leave the same state. -/
theorem withOutcomes_congr {ending' : Ending}
    (h : ∀ k op, (s.tickets.get k).body = .opened op → ending op = ending' op) :
    withOutcomes ending s = withOutcomes ending' s := by
  have hends : ∀ k, (s.tickets.get k).ends ending = (s.tickets.get k).ends ending' := fun k =>
    (Ticket.ended_congr (h k)).1
  have hended : (s.tickets.each fun _ => Ticket.ended ending) = s.tickets.each fun _ => Ticket.ended ending' :=
    Tbl.ext_get fun k => by rw [Tbl.get_each, Tbl.get_each, (Ticket.ended_congr (h k)).2]
  rw [withOutcomes_eq, withOutcomes_eq, hended]
  simp only [hends]

end

section

variable {n : SlotIx} {op : TicketOp} {outcome : TicketOutcome} {detail : Option TicketDetail}

theorem slotEnding_of_onSlot (h : op.onSlot n = true) : slotEnding n outcome detail op = some (outcome, detail) :=
  if_pos (TicketOp.onSlot_iff.1 h)

theorem slotEnding_isSome : (slotEnding n outcome detail op).isSome = op.onSlot n := by
  rw [Bool.eq_iff_iff, TicketOp.onSlot_iff, slotEnding]
  split <;> simp_all

theorem Ticket.ends_slotEnding (t : Ticket) : t.ends (slotEnding n outcome detail) = t.openFor (TicketOp.onSlot n) := by
  rw [Bool.eq_iff_iff, Ticket.ends_iff, Ticket.openFor_iff]
  simp only [slotEnding_isSome]

end

/-- At most one ticket is OPEN for the slot (R142). -/
def slotTicketOnce (s : State) (n : SlotIx) : Prop :=
  ∀ j k, (s.tickets.get j).openFor (TicketOp.onSlot n) = true →
    (s.tickets.get k).openFor (TicketOp.onSlot n) = true → j = k

/-- The ticket of a slot ended, as the rules write it. -/
theorem State.finishSlotTicket_eq {s : State} {n : SlotIx} (once : slotTicketOnce s n) (outcome : TicketOutcome)
    (detail : Option TicketDetail) :
    s.finishSlotTicket n outcome detail = withOutcomes (slotEnding n outcome detail) s := by
  unfold State.finishSlotTicket
  split
  · rename_i hnone
    exact (withOutcomes_of_none fun k => by rw [Ticket.ends_slotEnding, State.openTicket_eq_none.1 hnone k]).symm
  · rename_i k hsome
    obtain ⟨hopen, -⟩ := (find_finRange_eq_some _ k).1 hsome
    obtain ⟨op, hop, hon⟩ := Ticket.openFor_iff.1 hopen
    refine (withOutcomes_of_one hop (slotEnding_of_onSlot hon) fun j hj => once j k ?_ hopen).symm
    rwa [Ticket.ends_slotEnding] at hj

/-- What an OPEN ticket of a slot is for, by the state of its slot (R143). -/
theorem Safe.ticketOp_of_onSlot {s : State} (h : Safe s) {k : Fin 8} {op : TicketOp} {n : SlotIx}
    (hop : (s.tickets.get k).body = .opened op) (hon : op.onSlot n = true) :
    op = .admission n ∧ ((s.slots.get n).state = .powering ∨ (s.slots.get n).state = .linking) ∨
      op = .ejection n ∧ (s.slots.get n).state = .ejecting ∨
      op = .recovery n ∧ ((s.slots.get n).state = .queued ∨ (s.slots.get n).state = .identifying) := by
  have hprogress := h.tickets.progress k op (by rw [Ticket.isOpen, hop, beq_self_eq_true])
  rcases TicketOp.onSlot_iff.1 hon with rfl | rfl | rfl <;> simpa [TicketOp.inProgress] using hprogress

/-! ### Events of a slot -/

/-- Out of part reset a command leaves the state of its effect. -/
theorem exec_next {c : Instr} {s t : State} (hrun : s.partReset = false)
    (heffect : (s.moveLevel c).quiet.effect c = t) (h : notReset c := by exact trivial) : exec c s = .next t := by
  rw [exec_of_running h hrun, heffect]

/-- A cause of SLOT(n), the source at its place as the rules write it (R110). -/
theorem State.raise_slot {c : Cause} {n : SlotIx} (hsource : c.source = slotSource n) (s : State) :
    s.raise c = withCauses ⟨8 + n.val, by omega⟩ c.bit s := by
  have hplace : slotSource n = ⟨8 + n.val, by omega⟩ := Fin.ext (Nat.add_comm n.val 8)
  rw [State.raise_eq, hsource, hplace]

/-! ### Presence and power good (R51, R52, R58) -/

@[simp] theorem State.putSlot_self (s : State) (n : SlotIx) : s.putSlot n (s.slots.get n) = s := by
  rw [State.putSlot, put_get_self]

theorem State.presenceRises_eq (s : State) (n : SlotIx) :
    s.presenceRises n =
      s.putSlot n
        (if (s.slots.get n).state = .empty then
          { s.slots.get n with state := .settling, settleTimer := some (settleDuration s.config.settle) }
        else { s.slots.get n with removalFilter := none }) := by
  unfold State.presenceRises
  split
  · rename_i h
    rw [if_pos h, Slot.settle, settleMicros_eq]
  · rename_i h
    rw [if_neg h]

theorem State.presenceFalls_eq (s : State) (n : SlotIx) :
    s.presenceFalls n =
      s.putSlot n
        (match (s.slots.get n).state with
        | .empty => s.slots.get n
        | .settling => { s.slots.get n with state := .empty, settleTimer := none }
        | _ => { s.slots.get n with removalFilter := some 2000 }) := by
  unfold State.presenceFalls
  cases (s.slots.get n).state with
  | empty => exact (s.putSlot_self n).symm
  | _ => rfl

/-- The state a settled slot waits in at the tail of the queue. -/
theorem State.settled_eq {s : State} {n : SlotIx} (hstate : (s.slots.get n).state = .settling)
    (htimer : (s.slots.get n).settleTimer ≠ none) :
    s.settled n = (s.putSlot n { s.slots.get n with state := .queued, settleTimer := none }).enqueueIdent n :=
  if_pos ⟨hstate, Option.isSome_iff_ne_none.2 htimer⟩

theorem State.powerGoodRises_eq (s : State) (n : SlotIx) :
    s.powerGoodRises n =
      s.putSlot n
        (match (s.slots.get n).state, (s.slots.get n).powerTimer with
        | .powering, some (.waiting _) => { s.slots.get n with powerTimer := some (.qualifying 1000) }
        | _, _ => s.slots.get n) := by
  unfold State.powerGoodRises
  cases (s.slots.get n).state with
  | powering =>
    cases (s.slots.get n).powerTimer with
    | none => exact (s.putSlot_self n).symm
    | some timer =>
      cases timer with
      | waiting micros => rfl
      | qualifying micros => exact (s.putSlot_self n).symm
  | _ => exact (s.putSlot_self n).symm

/-- A deassertion of power good is a loss in these states (R58, R59, R62, R66). -/
theorem Slot.losesPower_iff (r : Slot) :
    r.losesPower = true ↔
      (∃ micros, r.state = .powering ∧ r.powerTimer = some (.qualifying micros)) ∨ r.state = .linking ∨
        r.state = .active ∨ r.state = .ejecting := by
  unfold Slot.losesPower
  split <;> simp_all

theorem State.qualified_eq {s : State} {n : SlotIx} {micros : Nat} (hstate : (s.slots.get n).state = .powering)
    (htimer : (s.slots.get n).powerTimer = some (.qualifying micros)) :
    s.qualified n =
      ((s.putSlot n { s.slots.get n with state := .linking, powerTimer := none }).putLink n
        { s.links.get n with state := .training, trainingTimer := some 20000 }).send n .training := by
  unfold State.qualified
  rw [hstate, htimer]
  rfl

/-! ### Admission and ejection (R60, R69) -/

/-- READY with a good count, on a slot whose OPEN ticket is its admission. -/
theorem State.admitted_eq {s : State} {n : SlotIx} {count : Nat} (once : slotTicketOnce s n)
    (hop : ∀ k op, (s.tickets.get k).body = .opened op → op.onSlot n = true → op = .admission n) :
    s.admitted n count =
      withOutcomes (fun op => if op = .admission n then some (.success, none) else none)
        (withCauses ⟨8 + n.val, by omega⟩ 0x02
          { s with
            slots := s.slots.put n { s.slots.get n with state := .active, usableTags := some count }
            links := s.links.put n { s.links.get n with state := .up, trainingTimer := none } }) := by
  rw [State.admitted, State.raise_slot (n := n) rfl]
  refine (State.finishSlotTicket_eq ?_ _ _).trans (withOutcomes_congr fun k op hbody => ?_)
  · exact once
  by_cases hon : op.onSlot n = true
  · rw [slotEnding_of_onSlot hon, if_pos (hop k op hbody hon)]
  · rw [if_neg (fun h => hon (TicketOp.onSlot_iff.2 (.inl h))), slotEnding,
      if_neg (fun h => hon (TicketOp.onSlot_iff.2 h))]

/-- The end of an ejection, as the rules write it. -/
theorem State.endEjection_eq {s : State} {n : SlotIx} (once : slotTicketOnce s n) (outcome : TicketOutcome) :
    s.quiet.endEjection n outcome = ejectionEnded n outcome s := by
  rw [State.endEjection, State.raise_slot (n := n) rfl]
  refine (State.finishSlotTicket_eq ?_ _ _).trans rfl
  exact once

/-! ### Packets and link loss (R88, R92 to R95, R104 to R107) -/

theorem LinkState.isOpen_iff (x : LinkState) : x.isOpen = true ↔ x = .up ∨ x = .quiescing := by
  cases x <;> simp [LinkState.isOpen]

theorem LinkState.isOpen_of_closed {x : LinkState} (h : x = .down ∨ x = .training) : ¬x.isOpen = true := by
  rw [LinkState.isOpen_iff]
  rcases h with rfl | rfl <;> simp

theorem State.losesLock_of_closed {s : State} {n : SlotIx}
    (h : (s.links.get n).state = .down ∨ (s.links.get n).state = .training) : s.losesLock n = s := by
  unfold State.losesLock
  rcases h with h | h <;> rw [h]

/-! ### The references of a window (R1, R18) -/

/-- The references of all engines are those of each engine. -/
theorem State.count_heldWindows (s : State) (w : WinIx) :
    s.heldWindows.count w = ∑ n, (s.links.get n).heldWindows.count w := by
  rw [State.heldWindows, List.count_flatMap, Fin.sum_univ_def]
  rfl

/-- Only the engine of its slot holds references of a window (R1). -/
theorem ReferencesHeld.refs_eq {s : State} (h : ReferencesHeld s) {w : WinIx} {n : SlotIx}
    (hslot : (s.windows.get w).ofSlot n = true) :
    (s.windows.get w).refs = (s.links.get n).heldWindows.count w := by
  rw [h.counted, s.count_heldWindows, Finset.sum_eq_single n]
  · intro j _ hj
    rw [List.count_eq_zero]
    intro hmem
    have hother := h.own j w hmem
    unfold Window.ofSlot at hslot hother
    cases hmapping : (s.windows.get w).mapping <;> simp_all
  · simp

theorem Link.heldWindows_of_idle {l : Link} (h : l.idle = true) : l.heldWindows = [] := by
  simp only [Link.idle, Bool.and_eq_true, List.isEmpty_iff, List.all_eq_true, List.mem_finRange, true_implies,
    beq_iff_eq] at h
  obtain ⟨hqueue, htags⟩ := h
  simp [Link.heldWindows, Link.owed, hqueue, htags, LinkTag.owed]

/-- A slot whose link is QUIESCING has its windows STAGED or FREE (R68). -/
theorem Safe.staged_of_quiescing {s : State} (h : Safe s) {n : SlotIx} (hlink : (s.links.get n).state = .quiescing)
    {w : WinIx} {m : Mapping} (hmapping : (s.windows.get w).mapping = some m) (hslot : m.slot = n) :
    s.windows.get w = .staged m := by
  have hstate := h.lifecycle.link n
  have hidle := h.queues.idle n (by rw [hlink]; decide)
  have hrefs : (s.windows.get w).refs = 0 := by
    rw [h.references.refs_eq (n := n) (by simp [Window.ofSlot, hmapping, hslot]), Link.heldWindows_of_idle hidle]
    rfl
  have hfits := h.windows.fits w
  rw [hlink] at hstate
  cases hwindow : s.windows.get w with
  | free => simp [hwindow, Window.mapping] at hmapping
  | staged m' => simp_all [Window.mapping]
  | opened m' refs =>
    obtain rfl : m' = m := by simpa [hwindow, Window.mapping] using hmapping
    have hactive : (s.slots.get n).state = .active := by simpa [hwindow, Window.fits, hslot] using hfits
    rw [hactive] at hstate
    cases hstate
  | closing m' refs d ticket =>
    simp [hwindow, Window.fits, Window.refs] at hfits hrefs
    omega

end Sys2Proof.Machine

/-! ### The obligations -/

namespace Sys2Proof.SlotEvents

-- One proof at a time: side by side they take more threads than the check's memory limit allows.
set_option Elab.async false

open Machine Expected

/-- Settles O43: presence by the state of the slot, and the settle timer by the state of the controller. -/
theorem presenceSettlesAndFilters : Obligations.PresenceSettlesAndFilters := by
  intro s n hrun
  refine ⟨exec_next hrun (State.presenceRises_eq _ n), exec_next hrun (State.presenceFalls_eq _ n),
    fun hstate htimer => ?_⟩
  have hsettled := State.settled_eq (s := s.quiet) hstate htimer
  exact ⟨fun hident => exec_next hrun (hsettled.trans (State.enqueueIdent_of_busy _ n hident)),
    fun hident _ => exec_next hrun (hsettled.trans (State.enqueueIdent_of_idle _ n hident))⟩

/-- Settles O44: the level, the timer of POWERING, and the end of its qualification. -/
theorem powerGoodQualifies : Obligations.PowerGoodQualifies := by
  intro s n hrun
  refine ⟨exec_next hrun (State.powerGoodRises_eq _ n), fun hkept => ?_, fun micros hstate htimer =>
    exec_next hrun (State.qualified_eq (s := s.quiet) hstate htimer)⟩
  have hloses : ¬(s.slots.get n).losesPower = true := fun h => hkept ((Slot.losesPower_iff _).1 h)
  exact exec_next hrun (if_neg hloses)

/-- Settles O47: the OPEN ticket of a slot whose link is TRAINING is its admission. -/
theorem readyAdmitsSlot : Obligations.ReadyAdmitsSlot := by
  intro s n count hsafe hrun htraining hmin hmax
  have hlink := hsafe.lifecycle.link n
  have hstate : (s.slots.get n).state = .linking := by
    rw [htraining] at hlink
    cases h : (s.slots.get n).state <;> simp_all [SlotState.goesWith]
  have hop : ∀ k op, (s.tickets.get k).body = .opened op → op.onSlot n = true → op = .admission n := by
    intro k op hbody hon
    rcases hsafe.ticketOp_of_onSlot hbody hon with ⟨h, -⟩ | ⟨-, h⟩ | ⟨-, h | h⟩
    · exact h
    all_goals rw [hstate] at h; cases h
  have htake : s.quiet.takeReady n count.toNat = s.quiet.admitted n count.toNat :=
    (if_pos htraining).trans (if_pos ⟨hmin, hmax⟩)
  exact exec_next hrun (htake.trans (State.admitted_eq (s := s.quiet) (hsafe.tickets.slotOnce n) hop))

/-- Settles O51: the mask of the held profile, and the state of link and slot. -/
theorem modulePacketsRaiseCauses : Obligations.ModulePacketsRaiseCauses := by
  intro s n hrun
  refine ⟨fun causes p hopen hprofile => ?_, fun hup hactive => ?_, fun hother => ?_⟩
  · have htake : s.quiet.takeAttention n causes = _ := if_pos ((LinkState.isOpen_iff _).2 hopen)
    have hmask : (s.slots.get n).attentionMask = p.attentionMask := by rw [Slot.attentionMask, hprofile]; rfl
    refine exec_next hrun (htake.trans ?_)
    rw [State.quiet_slots, hmask]
    rfl
  · have htake : s.quiet.takeEjectRequest n = s.quiet.raise (.ejectRequested n) := if_pos ⟨hup, hactive⟩
    exact exec_next hrun (htake.trans (State.raise_slot rfl _))
  · exact exec_next hrun (if_neg (not_and_or.2 hother))

/-- Settles O52: each packet by the test of its link state. -/
theorem discardedPacketsChangeNothing : Obligations.DiscardedPacketsChangeNothing := by
  intro s n hrun
  refine ⟨exec_next hrun rfl, fun hlink count => exec_next hrun (if_neg hlink), fun hclosed => ?_,
    fun hlink => exec_next hrun (if_neg hlink)⟩
  have hopen := LinkState.isOpen_of_closed hclosed
  exact ⟨fun k status data => exec_next hrun (if_neg hopen), fun causes => exec_next hrun (if_neg hopen),
    exec_next hrun (if_neg hopen), exec_next hrun (State.losesLock_of_closed (s := s.quiet) hclosed)⟩

/-- Settles O53: QUIESCED and the quiesce timer end the ejection; no window of the slot holds a reference then. -/
theorem quiesceEndsEjection : Obligations.QuiesceEndsEjection := by
  intro s n hsafe hrun hlink
  have hended := fun outcome => State.endEjection_eq (s := s) (hsafe.tickets.slotOnce n) outcome
  have htimer : (s.slots.get n).quiesceTimer.isSome = true := by
    have htimers := hsafe.timers n
    simp only [Slot.timersFit, Bool.and_eq_true, hlink, beq_self_eq_true] at htimers
    obtain ⟨⟨⟨-, hquiesce⟩, -⟩, -⟩ := htimers
    exact beq_iff_eq.1 hquiesce
  have hpacket : s.quiet.takeQuiesced n = s.quiet.endEjection n .success := if_pos hlink
  have hexpiry : s.quiet.quiesceTimesOut n = s.quiet.endEjection n .forced := if_pos ⟨hlink, htimer⟩
  exact ⟨exec_next hrun (hpacket.trans (hended .success)), exec_next hrun (hexpiry.trans (hended .forced)),
    fun w m hmapping hslot => hsafe.staged_of_quiescing hlink hmapping hslot⟩

end Sys2Proof.SlotEvents

/-! PROOFS. The identification link (chapter 4): transactions, images and the controller. -/

namespace Sys2Proof.Machine

-- One proof at a time: side by side they take more threads than the check's memory limit allows.
set_option Elab.async false

open Sys2Proof.Expected

/-! ### The bytes of a transaction (R80, R81) -/

/-- The bytes of the part's that are left to open a transaction, as the rules write them. -/
theorem ReadRecord.opening_eq {r : ReadRecord} (hphase : r.phase ≠ .busClear) (hsent : r.sent ≤ 3) :
    r.opening = (List.range' r.sent (3 - r.sent)).map (partByte r.phase) := by
  unfold ReadRecord.opening
  generalize hk : r.sent = k at hsent
  cases hp : r.phase with
  | busClear => exact absurd hp hphase
  | header | body => interval_cases k <;> rfl

/-- What is left of a transaction the image bytes of which are not whole, or the opening of which is over. -/
structure ReadRecord.inTransaction (r : ReadRecord) (size : Nat) : Prop where
  phase : r.phase ≠ .busClear
  sent : r.sent ≤ 3
  opened : r.bytes.length < size ∨ r.sent = 3

section

variable {r : ReadRecord} {size : Nat}

theorem readOn_acknowledged_of_opened (h : r.sent = 3) (run : List Transfer) :
    readOn size r (.acknowledged :: run) = readOn size r run := by
  have hbytes : imageBytes (.acknowledged :: run) = imageBytes run := rfl
  simp [readOn, hbytes, h]

theorem readOn_acknowledged (run : List Transfer) :
    readOn size r (.acknowledged :: run) = readOn size { r with sent := r.sent + 1 } run := by
  have hbytes : imageBytes (.acknowledged :: run) = imageBytes run := rfl
  have hlength : r.sent + (run.length + 1) = r.sent + 1 + run.length := by omega
  simp only [readOn, hbytes, List.length_cons, hlength]

theorem readOn_received (h : r.bytes.length < size) (b : Byte) (run : List Transfer) :
    readOn size r (.received b :: run) = readOn size { r with sent := 3, bytes := r.bytes ++ [b] } run := by
  have hbytes : imageBytes (.received b :: run) = b :: imageBytes run := rfl
  have hleft : size - r.bytes.length = (size - (r.bytes.length + 1)) + 1 := by omega
  simp [readOn, hbytes, hleft]

theorem readOn_received_of_whole (h : ¬r.bytes.length < size) (hsent : r.sent = 3) (b : Byte) (run : List Transfer) :
    readOn size r (.received b :: run) = readOn size r run := by
  have hleft : size - r.bytes.length = 0 := by omega
  simp [readOn, hleft, hsent]

/-- A run moves on in the bytes of the part's. -/
theorem le_readOn_sent (hsent : r.sent ≤ 3) (run : List Transfer) : r.sent ≤ (readOn size r run).sent := by
  unfold readOn
  dsimp only
  split <;> omega

theorem passing_acknowledged (h : r.sent < 3) (run : List Transfer) :
    passing size r (.acknowledged :: run) =
      partByte r.phase r.sent ++ passing size { r with sent := r.sent + 1 } run := by
  have hle := le_readOn_sent (size := size) (r := { r with sent := r.sent + 1 }) (by exact h) run
  have hrange : (readOn size { r with sent := r.sent + 1 } run).sent - r.sent =
      ((readOn size { r with sent := r.sent + 1 } run).sent - (r.sent + 1)) + 1 := by
    dsimp only at hle
    omega
  have hbytes : imageBytes (.acknowledged :: run) = imageBytes run := rfl
  simp only [passing, readOn_acknowledged, hbytes, hrange, List.range'_succ, List.flatMap_cons, List.append_assoc]

theorem passing_received (h : r.bytes.length < size) (b : Byte) (run : List Transfer) :
    passing size r (.received b :: run) =
      (List.range' r.sent (3 - r.sent)).flatMap (partByte r.phase) ++
        [.received b (decide (r.bytes.length + 1 < size))] ++
        passing size { r with sent := 3, bytes := r.bytes ++ [b] } run := by
  have hbytes : imageBytes (.received b :: run) = b :: imageBytes run := rfl
  have hleft : size - r.bytes.length = (size - (r.bytes.length + 1)) + 1 := by omega
  have hsent : (readOn size { r with sent := 3, bytes := r.bytes ++ [b] } run).sent = 3 := by
    unfold readOn
    dsimp only
    split <;> omega
  have hfirst : decide (0 + 1 < size - (r.bytes.length + 1) + 1) = decide (r.bytes.length + 1 < size) := by
    rw [decide_eq_decide]
    omega
  simp only [passing, readOn_received h, hbytes, hsent, hleft, List.take_succ_cons, List.zipIdx_cons, List.map_cons,
    List.length_append, List.length_singleton, Nat.sub_self, List.range'_zero, List.flatMap_nil, List.nil_append,
    hfirst, List.append_assoc, List.cons_append, Nat.zero_add]
  rw [List.zipIdx_succ, List.map_map]
  simp [Function.comp_def]

end

/-- A run of bytes of a transaction, as the rules write it. -/
theorem ReadRecord.transfers_eq {r : ReadRecord} {size : Nat} (h : r.inTransaction size) (run : List Transfer) :
    r.transfers size run = (readOn size r run, passing size r run) := by
  induction run generalizing r with
  | nil =>
    obtain ⟨-, hsent, -⟩ := h
    simp [ReadRecord.transfers, readOn, passing, imageBytes, hsent]
  | cons x run ih =>
    obtain ⟨hphase, hsent, hopened⟩ := h
    have hopening := ReadRecord.opening_eq hphase hsent
    cases x with
    | acknowledged =>
      obtain ⟨hover, hnext⟩ := r.transfer_acknowledged size
      by_cases hlast : r.sent = 3
      · have hread := readOn_acknowledged_of_opened (size := size) hlast run
        have hnone : r.opening = [] := by rw [hopening, hlast]; rfl
        rw [ReadRecord.transfers, hover hnone, ih ⟨hphase, hsent, hopened⟩, hread]
        simp only [passing, hread, List.nil_append]
        rfl
      · have hlt : r.sent < 3 := by omega
        have hsome : r.opening = partByte r.phase r.sent ::
            (List.range' (r.sent + 1) (3 - (r.sent + 1))).map (partByte r.phase) := by
          have hleft : 3 - r.sent = (3 - (r.sent + 1)) + 1 := by omega
          rw [hopening, hleft, List.range'_succ, List.map_cons]
        have hin : ReadRecord.inTransaction { r with sent := r.sent + 1 } size :=
          ⟨hphase, hlt, hopened.imp_right fun e => absurd e hlast⟩
        rw [ReadRecord.transfers, hnext _ _ hsome, ih hin, readOn_acknowledged, passing_acknowledged hlt]
    | received b =>
      obtain ⟨hmore, hfull⟩ := r.transfer_received size b
      by_cases hlt : r.bytes.length < size
      · have hin : ReadRecord.inTransaction { r with sent := 3, bytes := r.bytes ++ [b] } size :=
          ⟨hphase, Nat.le_refl 3, .inr rfl⟩
        rw [ReadRecord.transfers, hmore hlt, ih hin, readOn_received hlt, passing_received hlt, hopening,
          List.flatMap_def]
      · have hlast : r.sent = 3 := hopened.resolve_left hlt
        have hread := readOn_received_of_whole hlt hlast b run
        have hleft : size - r.bytes.length = 0 := by omega
        rw [ReadRecord.transfers, hfull hlt, ih ⟨hphase, hsent, hopened⟩, hread]
        simp only [passing, hread, List.nil_append, hleft, List.take_zero]

/-! ### A sound read in progress (R79 to R81) -/

/-- A header that passes leads to the length its item count asks for (R83). -/
theorem headerPasses_iff (b0 b1 b2 b3 : Byte) :
    headerPasses b0 b1 b2 b3 = true ↔ b0 = 1 ∧ b1.toNat ≤ 6 ∧ b2.toNat + 256 * b3.toNat = 17 + 8 * b1.toNat := by
  simp [headerPasses, leNat, imageLengthOf, and_assoc]

theorem ReadRecord.sound_busClear {r : ReadRecord} (h : r.sound = true) (hphase : r.phase = .busClear) :
    r.sent = 0 ∧ r.bytes = [] ∧ r.imageLength = none := by
  simp only [ReadRecord.sound, hphase, Bool.and_eq_true, decide_eq_true_eq, beq_iff_eq, List.isEmpty_iff,
    Option.isNone_iff_eq_none] at h
  obtain ⟨-, ⟨hsent, hbytes⟩, hlength⟩ := h
  exact ⟨hsent, hbytes, hlength⟩

theorem ReadRecord.sound_attempt {r : ReadRecord} (h : r.sound = true) :
    (1 ≤ r.attempt ∧ r.attempt ≤ 3) ∧ r.sent ≤ 3 := by
  simp only [ReadRecord.sound, Bool.and_eq_true, decide_eq_true_eq] at h
  exact h.1

/-- A read whose header is being received. -/
theorem ReadRecord.sound_header {r : ReadRecord} (h : r.sound = true) (hphase : r.phase = .header) :
    r.bytes.length < 4 ∧ r.imageLength = none ∧ (r.bytes = [] ∨ r.sent = 3) := by
  simp only [ReadRecord.sound, hphase, Bool.and_eq_true, decide_eq_true_eq, beq_iff_eq, List.isEmpty_iff,
    Option.isNone_iff_eq_none, Bool.or_eq_true] at h
  obtain ⟨-, ⟨hlength, himage⟩, hopened⟩ := h
  exact ⟨hlength, himage, hopened⟩

/-- A read whose body is being received: its header passed, and its image is not whole. -/
theorem ReadRecord.sound_body {r : ReadRecord} (h : r.sound = true) (hphase : r.phase = .body) :
    ∃ b0 b1 b2 b3 rest, r.bytes = b0 :: b1 :: b2 :: b3 :: rest ∧ headerPasses b0 b1 b2 b3 = true ∧
      r.imageLength = some (17 + 8 * b1.toNat) ∧ r.bytes.length < 17 + 8 * b1.toNat ∧ (rest = [] ∨ r.sent = 3) := by
  simp only [ReadRecord.sound, hphase, Bool.and_eq_true] at h
  obtain ⟨-, h⟩ := h
  split at h
  · rename_i heq
    cases heq
  · rename_i heq
    cases heq
  · rename_i b0 b1 b2 b3 rest _ hbytes
    simp only [Bool.and_eq_true, beq_iff_eq, decide_eq_true_eq, Bool.or_eq_true, List.isEmpty_iff] at h
    obtain ⟨⟨⟨hpasses, himage⟩, hlength⟩, hopened⟩ := h
    have hlen : leNat [b2, b3] = 17 + 8 * b1.toNat := by
      have := ((headerPasses_iff b0 b1 b2 b3).1 hpasses).2.2
      simpa [leNat] using this
    rw [hlen] at himage hlength
    refine ⟨b0, b1, b2, b3, rest, hbytes, hpasses, himage, ?_, hopened⟩
    rw [hbytes]
    simp only [List.length_cons]
    omega
  · cases h

theorem ReadRecord.inTransaction_of_header {r : ReadRecord} (h : r.sound = true) (hphase : r.phase = .header) :
    r.inTransaction 4 :=
  ⟨by rw [hphase]; decide, (ReadRecord.sound_attempt h).2, .inl (ReadRecord.sound_header h hphase).1⟩

/-- The controller of a sound state that reads holds a sound read of the one IDENTIFYING slot (R75, R78). -/
theorem Safe.reading_sound {s : State} (h : Safe s) {r : ReadRecord} (hident : s.ident = .reading r) :
    r.sound = true ∧ (s.slots.get r.slot).state = .identifying := by
  have hsound := h.lifecycle.sound
  rw [hident] at hsound
  exact ⟨hsound, (h.lifecycle.reading r.slot).2 (by rw [hident]; rfl)⟩

/-! ### The end of a read (R84, R85) -/

/-- The slot's OPEN ticket is one of SLOT_RECOVER, if it has one. -/
def recoveryAlone (s : State) (n : SlotIx) : Prop :=
  slotTicketOnce s n ∧ ∀ k op, (s.tickets.get k).body = .opened op → op.onSlot n = true → op = .recovery n

theorem Safe.recoveryAlone_of_identifying {s : State} (h : Safe s) {n : SlotIx}
    (hstate : (s.slots.get n).state = .identifying) : recoveryAlone s n := by
  refine ⟨h.tickets.slotOnce n, fun k op hbody hon => ?_⟩
  rcases h.ticketOp_of_onSlot hbody hon with ⟨-, h | h⟩ | ⟨-, h⟩ | ⟨hop, -⟩
  · rw [hstate] at h; cases h
  · rw [hstate] at h; cases h
  · rw [hstate] at h; cases h
  · exact hop

/-- The recovery ticket of a slot ended, as the rules write it. -/
theorem State.finishSlotTicket_recovery {s : State} {n : SlotIx} (h : recoveryAlone s n) (outcome : TicketOutcome)
    (detail : Option TicketDetail) :
    s.finishSlotTicket n outcome detail =
      withOutcomes (fun op => if op = .recovery n then some (outcome, detail) else none) s := by
  obtain ⟨once, hop⟩ := h
  refine (State.finishSlotTicket_eq once _ _).trans (withOutcomes_congr fun k op hbody => ?_)
  by_cases hon : op.onSlot n = true
  · rw [slotEnding_of_onSlot hon, if_pos (hop k op hbody hon)]
  · rw [if_neg (fun h => hon (TicketOp.onSlot_iff.2 (.inr (.inr h)))), slotEnding,
      if_neg (fun h => hon (TicketOp.onSlot_iff.2 h))]

theorem State.readFails_eq (s : State) (r : ReadRecord) (cause : FaultCause) (h : recoveryAlone s r.slot) :
    s.readFails r cause = readFailed r.slot cause s := by
  rw [State.readFails, State.identIdle_eq, State.raise_slot (n := r.slot) rfl, State.finishSlotTicket_recovery]
  · rfl
  · exact h

theorem State.readSucceeds_eq (s : State) (r : ReadRecord) (p : Profile) (h : recoveryAlone s r.slot) :
    s.readSucceeds r p = readDone r.slot p s := by
  rw [State.readSucceeds, State.identIdle_eq, State.raise_slot (n := r.slot) rfl, State.finishSlotTicket_recovery]
  · rfl
  · exact h

/-! ### The image of a profile (R83, R87, R157) -/

theorem leNat_take_drop (image : List Byte) (k len : Nat) :
    leNat ((image.drop k).take (len + 1)) = byteAt image k + 256 * leNat ((image.drop (k + 1)).take len) := by
  by_cases hk : k < image.length
  · rw [List.drop_eq_getElem_cons hk, List.take_succ_cons, leNat, byteAt, List.getD_eq_getElem _ _ hk]
  · have hnone : image.drop k = [] := List.drop_eq_nil_of_le (by omega)
    have hnext : image.drop (k + 1) = [] := List.drop_eq_nil_of_le (by omega)
    have hbyte : byteAt image k = 0 := by
      rw [byteAt, List.getD_eq_default _ _ (by omega)]
      rfl
    simp [hnone, hnext, hbyte, leNat]

theorem imageField_two (image : List Byte) (k : Nat) :
    imageField image k 2 = byteAt image k + 256 * byteAt image (k + 1) := by
  rw [imageField, leNat_take_drop, leNat_take_drop, List.take_zero, leNat]
  omega

theorem imageField_four (image : List Byte) (k : Nat) :
    imageField image k 4 =
      byteAt image k + 256 * byteAt image (k + 1) + 65536 * byteAt image (k + 2)
        + 16777216 * byteAt image (k + 3) := by
  rw [imageField, leNat_take_drop, leNat_take_drop, leNat_take_drop, leNat_take_drop, List.take_zero, leNat]
  simp only [Nat.add_assoc, Nat.reduceAdd]
  omega

/-- The 8-bit sum of a run of bytes is their sum modulo 256. -/
theorem foldl_add_toNat (image : List Byte) (b : Byte) :
    (image.foldl (· + ·) b).toNat = (b.toNat + (image.map BitVec.toNat).sum) % 256 := by
  induction image generalizing b with
  | nil => simp [Nat.mod_eq_of_lt b.isLt]
  | cons x image ih =>
    rw [List.foldl_cons, ih, List.map_cons, List.sum_cons, BitVec.toNat_add]
    omega

theorem checksumPasses_iff (image : List Byte) :
    checksumPasses image = true ↔ (image.map BitVec.toNat).sum % 256 = 0 := by
  have hsum := foldl_add_toNat image 0
  rw [checksumPasses, beq_iff_eq, ← BitVec.toNat_inj, hsum]
  simp

theorem kind_bits_isSome_iff (b : Byte) : (kindOf (b &&& 0x0F).toNat).isSome = true ↔ b.toNat % 16 ≤ 1 := by
  revert b
  decide

theorem kind_bits_zero_iff (b : Byte) : b &&& 0x0F = 0 ↔ b.toNat % 16 = 0 := by
  revert b
  decide

theorem unassigned_bits_zero_iff (b : Byte) : b &&& 0xE0 = 0 ↔ b.toNat / 32 = 0 := by
  revert b
  decide

theorem writable_bit_iff (b : Byte) : b.getLsbD 4 = decide (b.toNat / 16 % 2 = 1) := by
  revert b
  decide

/-- A request of an image, its fields at their places (R157). -/
theorem imageRequest_eq (image : List Byte) (j : Nat) :
    imageRequest image j =
      { kind := if byteAt image (16 + 8 * j) % 16 = 0 then .mem else .reg
        writable := decide (byteAt image (16 + 8 * j) / 16 % 2 = 1)
        alignment := byteAt image (17 + 8 * j)
        pages := pagesAt image j
        base := baseAt image j } := by
  have hplace : ∀ a b, a + 8 * j + b = a + b + 8 * j := fun a b => by omega
  rw [imageRequest, imageField_two, imageField_four, writable_bit_iff]
  simp only [kind_bits_zero_iff, imageByte, requestOffset, hplace, Nat.reduceAdd]
  rfl

theorem imageCount_eq (image : List Byte) : imageCount image = byteAt image 1 := rfl

/-- The profile of an image, its fields at their places (R87, R157). -/
theorem imageProfile_eq {image : List Byte} {count : Nat} (hcount : byteAt image 1 = count) :
    imageProfile image = profileAt image count := by
  have hrequests : imageRequest image = _ := funext (imageRequest_eq image)
  rw [imageProfile, imageCount_eq, hcount, imageField_two, imageField_two, imageField_four, hrequests]
  rfl

/-- Checks 5 to 9 of a request, its fields at their places (R83). -/
theorem requestPasses_iff (image : List Byte) (j : Nat) :
    requestPasses image j = true ↔
      byteAt image (16 + 8 * j) % 16 ≤ 1 ∧ byteAt image (16 + 8 * j) / 32 = 0 ∧ byteAt image (17 + 8 * j) ≤ 16 ∧
        baseAt image j < 1048576 ∧ baseAt image j + pagesAt image j ≤ 1048576 := by
  simp only [requestPasses, Bool.and_eq_true, kind_bits_isSome_iff, beq_iff_eq, unassigned_bits_zero_iff,
    decide_eq_true_eq, imageRequest_eq, and_assoc]
  rfl

/-- Checks 4 to 9 (R83). -/
theorem imagePasses_iff {image : List Byte} {count : Nat} (hcount : byteAt image 1 = count) :
    imagePasses image = true ↔ imageAccepted image count := by
  simp only [imagePasses, Bool.and_eq_true, checksumPasses_iff, List.all_eq_true, List.mem_range, requestPasses_iff,
    imageCount_eq, hcount, imageAccepted]

/-! ### The events of the identification link -/

/-- A run of the header transaction, its operands in their order (log 12). -/
theorem headerRun_eq (next : Transfer) (second third fourth : Option Transfer) :
    next :: [second, third, fourth].reduceOption =
      next :: (second.toList ++ third.toList ++ fourth.toList) := by
  cases second <;> cases third <;> cases fourth <;> rfl

/-- Bytes of the body, on a sound read whose item count is `count` (R81, R83 to R85). -/
theorem State.bodyRead_of_sound {s : State} {r : ReadRecord} {count : Nat} (run : List Transfer)
    (hident : s.ident = .reading r) (hsound : r.sound = true) (hphase : r.phase = .body)
    (hcount : byteAt r.bytes 1 = count) (halone : recoveryAlone s r.slot) :
    let size := 17 + 8 * count
    let image := (readOn size r run).bytes
    (image.length < size →
      s.bodyRead run = (s.onIdentLink (passing size r run)).putIdent (.reading (readOn size r run))) ∧
    (image.length = size → imageAccepted image count →
      s.bodyRead run = readDone r.slot (profileAt image count) (s.onIdentLink (passing size r run ++ [.stop]))) ∧
    (image.length = size → ¬imageAccepted image count →
      s.bodyRead run = readFailed r.slot .identBadImage (s.onIdentLink (passing size r run ++ [.stop]))) := by
  obtain ⟨b0, b1, b2, b3, rest, hbytes, -, himage, hlength, -⟩ := ReadRecord.sound_body hsound hphase
  obtain rfl : b1.toNat = count := by rw [← hcount, hbytes]; rfl
  have hin : r.inTransaction (17 + 8 * b1.toNat) :=
    ⟨by rw [hphase]; decide, (ReadRecord.sound_attempt hsound).2, .inl hlength⟩
  have hread := State.bodyRead_eq run hident hphase himage
  have hone : byteAt (readOn (17 + 8 * b1.toNat) r run).bytes 1 = b1.toNat := by
    simp [readOn, hbytes, byteAt]
  have hslot : (readOn (17 + 8 * b1.toNat) r run).slot = r.slot := rfl
  simp only [ReadRecord.transfers_eq hin] at hread
  refine ⟨fun hmore => ?_, fun hwhole haccepted => ?_, fun hwhole haccepted => ?_⟩
  · rw [hread, if_pos hmore]
  · have hpasses := (imagePasses_iff hone).2 haccepted
    rw [hread, if_neg (by omega), if_pos hpasses, State.readSucceeds_eq _ _ _ (by exact halone), hslot,
      imageProfile_eq hone]
  · have hpasses : ¬imagePasses (readOn (17 + 8 * b1.toNat) r run).bytes = true :=
      fun h => haccepted ((imagePasses_iff hone).1 h)
    rw [hread, if_neg (by omega), if_neg hpasses, State.readFails_eq _ _ _ (by exact halone), hslot]

/-- The byte of the part's that is not acknowledged (R80, R81, R82). -/
theorem State.missingAcknowledge_of_unsent {s : State} {r : ReadRecord} (hident : s.ident = .reading r)
    (hbyte : r.phase = .busClear ∨ r.sent < 3) :
    s.missingAcknowledge =
      (s.onIdentLink ((if r.phase = .busClear then List.replicate 9 .clockPulse else partByte r.phase r.sent)
        ++ [.stop])).attemptFailure r := by
  obtain ⟨hclear, hother⟩ := State.missingAcknowledge_eq hident
  by_cases hphase : r.phase = .busClear
  · rw [hclear hphase, if_pos hphase]
  · have hlt : r.sent < 3 := hbyte.resolve_left hphase
    have hleft : 3 - r.sent = (3 - (r.sent + 1)) + 1 := by omega
    have hopening : r.opening = partByte r.phase r.sent ::
        (List.range' (r.sent + 1) (3 - (r.sent + 1))).map (partByte r.phase) := by
      rw [ReadRecord.opening_eq hphase (Nat.le_of_lt hlt), hleft, List.range'_succ, List.map_cons]
    rw [(hother hphase).2 _ _ hopening, if_neg hphase]

/-- A bus clear that leaves the data line low fails the attempt (R79, R82). -/
theorem State.busCleared_of_low {s : State} {r : ReadRecord} (hident : s.ident = .reading r)
    (hphase : r.phase = .busClear) :
    s.busCleared none = (s.onIdentLink (List.replicate 9 .clockPulse ++ [.stop])).attemptFailure r := by
  simp [State.busCleared, hident, hphase]

theorem State.busCleared_of_free {s : State} {r : ReadRecord} (hident : s.ident = .reading r)
    (hphase : r.phase = .busClear) (pulses : Fin 10) :
    s.busCleared (some pulses) =
      (s.onIdentLink (List.replicate pulses.val .clockPulse ++ [.stop])).putIdent
        (.reading { r with phase := .header }) := by
  simp [State.busCleared, hident, hphase]

/-! ### The image that R157 lays out for a profile -/

/-- The whole image of a profile. -/
def imageOf (p : Profile) : List Byte := headerBytes p ++ imageBody p

@[simp] theorem length_requestBytes (r : Request) : (requestBytes r).length = 8 := rfl

theorem length_imageBody (p : Profile) : (imageBody p).length = 13 + 8 * p.requests.length := by
  have hlength : ∀ l : List Request, (l.flatMap requestBytes).length = 8 * l.length := fun l => by
    induction l with
    | nil => rfl
    | cons r l ih => rw [List.flatMap_cons, List.length_append, ih, length_requestBytes, List.length_cons]; omega
  simp only [imageBody, profileBytes, List.length_append, List.length_map, hlength, List.length_cons, List.length_nil]
  omega

theorem length_imageOf (p : Profile) : (imageOf p).length = 17 + 8 * p.requests.length := by
  rw [imageOf, List.length_append, length_imageBody]
  simp only [headerBytes, List.length_map, List.length_cons, List.length_nil]
  omega

/-- A byte of a request lies in its own entry. -/
theorem getD_flatMap_requestBytes {l : List Request} {j : Nat} (hj : j < l.length) {i : Nat} (hi : i < 8)
    (more : List Byte) : (l.flatMap requestBytes ++ more).getD (8 * j + i) 0 = (requestBytes l[j]).getD i 0 := by
  induction l generalizing j with
  | nil => cases hj
  | cons r l ih =>
    rw [List.flatMap_cons, List.append_assoc]
    cases j with
    | zero =>
      rw [List.getD_append _ _ _ _ (by simpa using hi)]
      simp
    | succ j =>
      have hplace : 8 * (j + 1) + i - (requestBytes r).length = 8 * j + i := by rw [length_requestBytes]; omega
      rw [List.getD_append_right _ _ _ _ (by rw [length_requestBytes]; omega), hplace,
        ih (Nat.lt_of_succ_lt_succ hj)]
      rfl

/-- A byte of request `j` of the image. -/
theorem byteAt_imageOf_request {p : Profile} {j : Nat} (hj : j < p.requests.length) {i : Nat} (hi : i < 8) :
    byteAt (imageOf p) (16 + i + 8 * j) = ((requestBytes p.requests[j]).getD i 0).toNat := by
  have hplace : 16 + i + 8 * j = 8 * j + i + 16 := by omega
  have hbytes : ∀ k, (imageOf p).getD (k + 16) 0 = (p.requests.flatMap requestBytes ++
      [0 - (headerBytes p ++ profileBytes p).foldl (· + ·) 0]).getD k 0 := fun k => rfl
  rw [byteAt, hplace, hbytes, getD_flatMap_requestBytes hj hi]

theorem byteAt_imageOf_count {p : Profile} (h : p.requests.length ≤ 6) :
    byteAt (imageOf p) 1 = p.requests.length := by
  change (BitVec.ofNat 8 p.requests.length).toNat = _
  rw [BitVec.toNat_ofNat]
  omega

theorem Request.inRange_iff (r : Request) :
    r.inRange = true ↔ r.alignment ≤ 16 ∧ 1 ≤ r.pages ∧ r.pages ≤ 65536 ∧ r.base + r.pages ≤ 1048576 :=
  decide_eq_true_iff

/-- The fields of request `j` of the image are those of the profile's request. -/
theorem request_imageOf {p : Profile} {j : Nat} (hj : j < p.requests.length) (h : p.requests[j].inRange = true) :
    byteAt (imageOf p) (16 + 8 * j) = kindNumber p.requests[j].kind + 16 * bit p.requests[j].writable ∧
      byteAt (imageOf p) (17 + 8 * j) = p.requests[j].alignment ∧ pagesAt (imageOf p) j = p.requests[j].pages ∧
      baseAt (imageOf p) j = p.requests[j].base := by
  have hbyte := fun {i : Nat} (hi : i < 8) => byteAt_imageOf_request hj hi
  generalize p.requests[j] = r at h hbyte
  obtain ⟨halign, hmin, hmax, hbase⟩ := r.inRange_iff.1 h
  have hkind : kindNumber r.kind ≤ 1 := by cases r.kind <;> decide
  have hbit : bit r.writable ≤ 1 := by cases r.writable <;> decide
  have hvalue : ∀ i (hi : i < 8), byteAt (imageOf p) (16 + i + 8 * j) =
      [kindNumber r.kind + 16 * bit r.writable, r.alignment, (r.pages - 1) % 256, (r.pages - 1) / 256, r.base % 256,
        r.base / 256 % 256, r.base / 65536 % 256, r.base / 16777216][i] := by
    intro i hi
    rw [hbyte hi]
    interval_cases i
    all_goals
      simp only [requestBytes, List.map_cons, List.getD_cons_zero, List.getD_cons_succ, BitVec.toNat_ofNat,
        List.getElem_cons_zero, List.getElem_cons_succ]
      omega
  have h0 := hvalue 0 (by decide)
  have h1 := hvalue 1 (by decide)
  have h2 := hvalue 2 (by decide)
  have h3 := hvalue 3 (by decide)
  have h4 := hvalue 4 (by decide)
  have h5 := hvalue 5 (by decide)
  have h6 := hvalue 6 (by decide)
  have h7 := hvalue 7 (by decide)
  simp only [Nat.reduceAdd, List.getElem_cons_zero, List.getElem_cons_succ] at h0 h1 h2 h3 h4 h5 h6 h7
  refine ⟨h0, h1, ?_, ?_⟩
  · rw [pagesAt, h2, h3]
    omega
  · rw [baseAt, h4, h5, h6, h7]
    omega

theorem Profile.inRange_iff (p : Profile) :
    p.inRange = true ↔ p.requests.length ≤ 6 ∧ ∀ r ∈ p.requests, r.inRange = true := by
  simp [Profile.inRange]

/-- The image of a profile passes its checks (R83). -/
theorem imageAccepted_imageOf {p : Profile} (h : p.inRange = true) :
    imageAccepted (imageOf p) p.requests.length := by
  obtain ⟨-, hrequests⟩ := p.inRange_iff.1 h
  refine ⟨?_, fun j hj => ?_⟩
  · have himage : imageOf p = (headerBytes p ++ profileBytes p) ++
        [0 - (headerBytes p ++ profileBytes p).foldl (· + ·) 0] := by
      rw [imageOf, imageBody, List.append_assoc]
    rw [← checksumPasses_iff, checksumPasses, himage, List.foldl_append, List.foldl_cons, List.foldl_nil, beq_iff_eq]
    generalize (headerBytes p ++ profileBytes p).foldl (· + ·) 0 = x
    bv_omega
  · have hin := hrequests _ (List.getElem_mem hj)
    obtain ⟨hkind, halign, hpages, hbase⟩ := request_imageOf hj hin
    rw [Request.inRange_iff] at hin
    have hcode : kindNumber p.requests[j].kind ≤ 1 := by cases p.requests[j].kind <;> decide
    have hbit : bit p.requests[j].writable ≤ 1 := by cases p.requests[j].writable <;> decide
    rw [hkind, halign, hpages, hbase]
    omega

/-- The image of a profile gives it back (R87, R157). -/
theorem profileAt_imageOf {p : Profile} (h : p.inRange = true) : profileAt (imageOf p) p.requests.length = p := by
  obtain ⟨-, hrequests⟩ := p.inRange_iff.1 h
  have hlist : ((List.range p.requests.length).map fun j =>
      ({ kind := if byteAt (imageOf p) (16 + 8 * j) % 16 = 0 then .mem else .reg
         writable := decide (byteAt (imageOf p) (16 + 8 * j) / 16 % 2 = 1)
         alignment := byteAt (imageOf p) (17 + 8 * j)
         pages := pagesAt (imageOf p) j
         base := baseAt (imageOf p) j } : Request)) = p.requests := by
    refine List.ext_getElem (by simp) fun j _ hj => ?_
    obtain ⟨hkind, halign, hpages, hbase⟩ := request_imageOf hj (hrequests _ (List.getElem_mem hj))
    rw [List.getElem_map, List.getElem_range, hkind, halign, hpages, hbase]
    generalize p.requests[j] = r
    obtain ⟨kind, writable, alignment, pages, base⟩ := r
    cases kind <;> cases writable <;> simp [kindNumber]
  have hbytes : ∀ k, k < 12 → byteAt (imageOf p) (k + 4) =
      ([p.vendorCode.toNat % 256, p.vendorCode.toNat / 256, p.moduleKind.toNat % 256, p.moduleKind.toNat / 256,
        p.revision.toNat, p.powerUnits.toNat, p.attentionMask.toNat, p.hardwareBuild.toNat, p.serial.toNat % 256,
        p.serial.toNat / 256 % 256, p.serial.toNat / 65536 % 256, p.serial.toNat / 16777216].getD k 0) := by
    intro k hk
    have hvendor := p.vendorCode.isLt
    have hmodule := p.moduleKind.isLt
    have hserial := p.serial.isLt
    interval_cases k
    all_goals
      refine (BitVec.toNat_ofNat _ _).trans (Nat.mod_eq_of_lt ?_)
      omega
  have hbyte : ∀ k, (imageOf p).getD k 0 = BitVec.ofNat 8 (byteAt (imageOf p) k) := fun k => by
    rw [byteAt, BitVec.ofNat_toNat, BitVec.setWidth_eq]
  obtain ⟨vendor, kind, revision, units, mask, build, serial, requests⟩ := p
  simp only [profileAt, Profile.mk.injEq]
  refine ⟨?_, ?_, ?_, ?_, ?_, ?_, ?_, hlist⟩
  · rw [hbytes 0 (by decide), hbytes 1 (by decide)]
    exact BitVec.eq_of_toNat_eq (by simp; omega)
  · rw [hbytes 2 (by decide), hbytes 3 (by decide)]
    exact BitVec.eq_of_toNat_eq (by simp; omega)
  · rw [hbyte, hbytes 4 (by decide)]
    exact BitVec.eq_of_toNat_eq (by simp)
  · rw [hbyte, hbytes 5 (by decide)]
    exact BitVec.eq_of_toNat_eq (by simp)
  · rw [hbyte, hbytes 6 (by decide)]
    exact BitVec.eq_of_toNat_eq (by simp)
  · rw [hbyte, hbytes 7 (by decide)]
    exact BitVec.eq_of_toNat_eq (by simp)
  · rw [hbytes 8 (by decide), hbytes 9 (by decide), hbytes 10 (by decide), hbytes 11 (by decide)]
    exact BitVec.eq_of_toNat_eq (by simp; omega)

/-- Reading what is left of an image makes it whole, whatever follows. -/
theorem readOn_imageOf {r : ReadRecord} {p : Profile} {k : Nat} {run : List Transfer} {rest : List Byte}
    (hk : k < (imageBody p).length) (hbytes : r.bytes = headerBytes p ++ (imageBody p).take k)
    (hrun : imageBytes run = (imageBody p).drop k ++ rest) :
    (readOn (17 + 8 * p.requests.length) r run).bytes = imageOf p := by
  have hlength : r.bytes.length = 4 + k := by
    rw [hbytes, List.length_append, List.length_take_of_le (Nat.le_of_lt hk)]
    rfl
  have hleft : 17 + 8 * p.requests.length - r.bytes.length = ((imageBody p).drop k).length := by
    rw [hlength, List.length_drop, length_imageBody]
    omega
  change r.bytes ++ _ = _
  rw [hleft, hrun, List.take_left, hbytes, List.append_assoc, List.take_append_drop, imageOf]

/-- The read that succeeds leaves its slot IDENTIFIED with its profile, whichever slot is served next. -/
theorem readDone_slot {s : State} {n : SlotIx} (p : Profile) (hqueue : n ∉ s.identQueue) :
    ((readDone n p s).slots.get n).state = .identified ∧ ((readDone n p s).slots.get n).profile = some p := by
  unfold readDone servingNext
  split
  · simp [withOutcomes, withCauses]
  · rename_i m rest hm
    have hother : n ≠ m := fun e => hqueue (by
      have : s.identQueue = m :: rest := hm
      rw [this, e]
      exact List.mem_cons_self)
    simp [withOutcomes, withCauses, hother]

end Sys2Proof.Machine

/-! ### The obligations -/

namespace Sys2Proof.Identification

-- One proof at a time: side by side they take more threads than the check's memory limit allows.
set_option Elab.async false

open Machine Expected

/-- Settles O55: the bus clear, the bytes of the header, and its checks. -/
theorem headerLeadsToBody : Obligations.HeaderLeadsToBody := by
  intro s r hsafe hrun hident
  obtain ⟨hsound, hstate⟩ := hsafe.reading_sound hident
  refine ⟨fun hphase pulses => exec_next hrun (State.busCleared_of_free (s := s.quiet) hident hphase pulses),
    fun hphase next second third fourth => ?_⟩
  have hin := ReadRecord.inTransaction_of_header hsound hphase
  obtain ⟨hmore, hwhole⟩ := State.headerRead_eq (s := s.quiet)
    (next :: (second.toList ++ third.toList ++ fourth.toList)) hident hphase
  rw [ReadRecord.transfers_eq hin] at hmore hwhole
  have heffect : (s.quiet.effect (.headerTransaction next second third fourth)) =
      s.quiet.headerRead (next :: (second.toList ++ third.toList ++ fourth.toList)) :=
    congrArg s.quiet.headerRead (headerRun_eq next second third fourth)
  refine ⟨fun hlength => exec_next hrun (heffect.trans (hmore hlength)), fun b0 b1 b2 b3 hbytes => ?_⟩
  obtain ⟨hpass, hfail⟩ := hwhole b0 b1 b2 b3 hbytes
  refine ⟨fun h0 h1 h2 => ?_, fun hnot => ?_⟩
  · have hlen : leNat [b2, b3] = 17 + 8 * b1.toNat := by simpa [leNat] using h2
    rw [hbytes, hlen] at hpass
    exact exec_next hrun (heffect.trans (hpass ((headerPasses_iff b0 b1 b2 b3).2 ⟨h0, h1, h2⟩)))
  · have hfails := hfail (Bool.eq_false_iff.2 fun h => hnot ((headerPasses_iff b0 b1 b2 b3).1 h))
    exact exec_next hrun (heffect.trans (hfails.trans
      (State.readFails_eq _ _ _ (by exact hsafe.recoveryAlone_of_identifying hstate))))

/-- Settles O56: the bytes of the body, and the checks of the whole image. -/
theorem bodyEndsRead : Obligations.BodyEndsRead := by
  intro s r count run hsafe hrun hident hphase hcount
  obtain ⟨hsound, hstate⟩ := hsafe.reading_sound hident
  obtain ⟨hmore, hdone, hfailed⟩ := State.bodyRead_of_sound (s := s.quiet) run hident hsound hphase hcount
    (hsafe.recoveryAlone_of_identifying hstate)
  exact ⟨fun h => exec_next hrun (hmore h), fun h haccepted => exec_next hrun (hdone h haccepted),
    fun h haccepted => exec_next hrun (hfailed h haccepted)⟩

/-- Settles O57: the whole image is accepted, and gives the profile back. -/
theorem imageGivesBackProfile : Obligations.ImageGivesBackProfile := by
  intro s r p k run rest hsafe hrun hident hphase hrange hk hbytes hbody
  obtain ⟨hsound, hstate⟩ := hsafe.reading_sound hident
  have himage := readOn_imageOf hk hbytes hbody
  have hcount : byteAt r.bytes 1 = p.requests.length := by
    rw [← byteAt_imageOf_count (p.inRange_iff.1 hrange).1, hbytes]
    rfl
  obtain ⟨-, hdone, -⟩ := State.bodyRead_of_sound (s := s.quiet) run hident hsound hphase hcount
    (hsafe.recoveryAlone_of_identifying hstate)
  rw [himage, profileAt_imageOf hrange] at hdone
  have hqueue : r.slot ∉ s.identQueue := fun hmem => by
    rw [hsafe.lifecycle.queueExact, hstate] at hmem
    cases hmem
  exact ⟨_, exec_next hrun (hdone (length_imageOf p) (imageAccepted_imageOf hrange)), readDone_slot p hqueue⟩

/-- Settles O58: the byte that fails, the attempt it fails in, and the retry. -/
theorem failedAttemptRetries : Obligations.FailedAttemptRetries := by
  intro s r hsafe hrun
  refine ⟨fun hident c hc => ?_, fun micros hident => exec_next hrun ?_⟩
  · obtain ⟨-, hstate⟩ := hsafe.reading_sound hident
    have heffect : ((s.moveLevel c).quiet.effect c) = (s.quiet.onIdentLink
        ((if r.phase = .busClear then List.replicate 9 .clockPulse else partByte r.phase r.sent)
          ++ [.stop])).attemptFailure r := by
      rcases hc with ⟨rfl, hbyte⟩ | ⟨rfl, hphase⟩
      · exact State.missingAcknowledge_of_unsent (s := s.quiet) hident hbyte
      · rw [if_pos hphase]
        exact State.busCleared_of_low (s := s.quiet) hident hphase
    have hnot : notReset c := by
      rcases hc with ⟨rfl, -⟩ | ⟨rfl, -⟩ <;> exact trivial
    refine ⟨fun hattempt => exec_next hrun (heffect.trans ?_) hnot,
      fun hattempt => exec_next hrun (heffect.trans ?_) hnot⟩
    · exact (State.attemptFailure_eq _ r).1 hattempt
    · rw [(State.attemptFailure_eq _ r).2 (by omega)]
      exact State.readFails_eq _ _ _ (by exact hsafe.recoveryAlone_of_identifying hstate)
  · change s.quiet.retry = _
    unfold State.retry
    rw [State.quiet_ident, hident]
    rfl

/-- Settles O59: the controller by its state. -/
theorem abandonedByteFreesController : Obligations.AbandonedByteFreesController := by
  refine ⟨fun s r hrun hident => exec_next hrun ?_, fun s hsafe => ⟨?_, fun n hstate => ?_, fun r hident => ?_, ?_⟩⟩
  · change s.quiet.abandonedEnd = _
    unfold State.abandonedEnd
    rw [State.quiet_ident, hident]
    exact State.identIdle_eq _
  · cases s.ident <;> simp [IdentCtl.select]
  · have hserving := (hsafe.lifecycle.reading n).1 hstate
    cases hident : s.ident <;> simp_all [IdentCtl.serving, IdentCtl.select]
  · rw [hident]
    rfl
  · cases s.ident <;> simp [IdentCtl.released]

end Sys2Proof.Identification

/-! PROOFS. References released with the drains they bring (R18 to R20), and the requests a teardown aborts (R108). -/

namespace Sys2Proof.Machine

-- One proof at a time: side by side they take more threads than the check's memory limit allows.
set_option Elab.async false

open Sys2Proof.Expected

/-! ### Tickets ended in two goes -/

section

variable {first second : Ending}

theorem Ticket.ended_ended (first second : Ending) (t : Ticket) :
    (t.ended first).ended second = t.ended fun op => (first op).or (second op) := by
  cases hbody : t.body with
  | free | finished => simp [Ticket.ended, hbody]
  | opened op =>
    cases hfirst : first op with
    | none =>
      have hor : ((first op).or (second op)) = second op := by rw [hfirst]; rfl
      rw [Ticket.ended_of_none hbody hfirst]
      exact (Ticket.ended_congr fun op' h => by obtain rfl : op = op' := by simpa [hbody] using h
                                                exact hor.symm).2
    | some e =>
      have hor : ((first op).or (second op)) = some e := by rw [hfirst]; rfl
      rw [Ticket.ended_of_some hbody hfirst, Ticket.ended_of_some hbody hor]
      rfl

theorem Ticket.ends_or (first second : Ending) (t : Ticket) :
    (t.ends fun op => (first op).or (second op)) = (t.ends first || (t.ended first).ends second) := by
  cases hbody : t.body with
  | free | finished => simp [Ticket.ends, Ticket.ended, hbody]
  | opened op => cases hfirst : first op <;> simp [Ticket.ends, Ticket.ended, hbody, hfirst]

/-- Two rules one after the other end the tickets that either ends, each as the first that ends it says. -/
theorem withOutcomes_withOutcomes (first second : Ending) (s : State) :
    withOutcomes second (withOutcomes first s) = withOutcomes (fun op => (first op).or (second op)) s := by
  have htickets : ((s.tickets.each fun _ => Ticket.ended first).each fun _ => Ticket.ended second) =
      s.tickets.each fun _ => Ticket.ended fun op => (first op).or (second op) :=
    Tbl.ext_get fun k => by rw [Tbl.get_each, Tbl.get_each, Tbl.get_each, Ticket.ended_ended]
  have hany : ((List.finRange 8).any fun k => (s.tickets.get k).ends fun op => (first op).or (second op)) =
      (((List.finRange 8).any fun k => (s.tickets.get k).ends first) ||
        (List.finRange 8).any fun k => ((s.tickets.each fun _ => Ticket.ended first).get k).ends second) := by
    rw [Bool.eq_iff_iff]
    simp only [Ticket.ends_or, Tbl.get_each, Bool.or_eq_true, List.any_eq_true, ← exists_or, ← and_or_left]
  have hbits : ∀ a b : Bool, (if (a || b) = true then (0x02 : Byte) else 0) =
      (if a = true then 0x02 else 0) ||| if b = true then 0x02 else 0 := by decide
  rw [withOutcomes_eq (fun op => (first op).or (second op)), hany, hbits, ← withCauses_same, ← htickets]
  rfl

end

/-! ### References released (R18 to R20) -/

theorem releasedWindow_zero (x : Window) : releasedWindow 0 x = x := by
  cases x <;> simp [releasedWindow]

theorem releasedWindow_add (a b : Nat) (x : Window) :
    releasedWindow (a + b) x = releasedWindow b (releasedWindow a x) := by
  cases x with
  | free | staged => rfl
  | opened m refs => simp [releasedWindow, Nat.sub_sub]
  | closing m refs d ticket =>
    by_cases hlast : 0 < a ∧ refs ≤ a
    · have hboth : 0 < a + b ∧ refs ≤ a + b := by omega
      cases d <;> simp [releasedWindow, hlast, hboth]
    · by_cases hboth : 0 < a + b ∧ refs ≤ a + b
      · have hnext : 0 < b ∧ refs - a ≤ b := by omega
        simp only [releasedWindow, if_neg hlast, if_pos hboth, if_pos hnext]
      · have hnext : ¬(0 < b ∧ refs - a ≤ b) := by omega
        simp only [releasedWindow, if_neg hlast, if_neg hboth, if_neg hnext, Nat.sub_sub]

/-- How the close ticket of a window ends when the window goes from `x` to `y` (R20). -/
def drainOutcome (x y : Window) : Option (TicketOutcome × Option TicketDetail) :=
  match x, y with
  | .closing _ _ _ (some _), .staged _ => some (.success, some .staged)
  | .closing _ _ _ (some _), .free => some (.success, some .free)
  | _, _ => none

theorem closeEnding_close (before after : Tbl 64 Window) (w : WinIx) :
    closeEnding before after (.close w) = drainOutcome (before.get w) (after.get w) := rfl

theorem drainOutcome_of_noTicket {x : Window} (h : x.closeTicket = none) (y : Window) : drainOutcome x y = none := by
  cases x with
  | closing m refs d ticket =>
    obtain rfl : ticket = none := h
    cases y <;> rfl
  | _ => rfl

@[simp] theorem drainOutcome_self (x : Window) : drainOutcome x x = none := by
  cases x with
  | closing m refs d ticket => cases ticket <;> rfl
  | _ => rfl

/-- A close ticket ends in the first of two goes that drains its window. -/
theorem drainOutcome_or (a b : Nat) (x : Window) :
    (drainOutcome x (releasedWindow a x)).or (drainOutcome (releasedWindow a x) (releasedWindow (a + b) x)) =
      drainOutcome x (releasedWindow (a + b) x) := by
  rw [releasedWindow_add]
  cases x with
  | free | staged | opened => rfl
  | closing m refs d ticket =>
    by_cases hlast : 0 < a ∧ refs ≤ a
    · cases d <;> cases ticket <;> simp only [releasedWindow, if_pos hlast] <;> rfl
    · simp only [releasedWindow, if_neg hlast]
      by_cases hnext : 0 < b ∧ refs - a ≤ b
      · cases d <;> cases ticket <;> simp only [if_pos hnext] <;> rfl
      · cases ticket <;> simp only [if_neg hnext] <;> rfl

/-- The Window Table after the references of `l` are released. -/
def releasedWindows (l : List WinIx) (t : Tbl 64 Window) : Tbl 64 Window := t.each fun w => releasedWindow (l.count w)

/-- A state after the references of `l` are released, with the drains this brings (R19, R20). -/
def released (l : List WinIx) (s : State) : State :=
  { withOutcomes (closeEnding s.windows (releasedWindows l s.windows)) s with
    windows := releasedWindows l s.windows }

/-- A state with its Window Table replaced, and the tickets that end by this ended. -/
def windowsEnded (ending : Ending) (windows : Tbl 64 Window) (s : State) : State :=
  { withOutcomes ending s with windows }

theorem windowsEnded_windowsEnded (first second : Ending) (before after : Tbl 64 Window) (s : State) :
    windowsEnded second after (windowsEnded first before s) =
      windowsEnded (fun op => (first op).or (second op)) after s := by
  rw [windowsEnded, windowsEnded, windowsEnded, ← withOutcomes_withOutcomes]
  rfl

theorem released_eq (l : List WinIx) (s : State) :
    released l s =
      windowsEnded (closeEnding s.windows (releasedWindows l s.windows)) (releasedWindows l s.windows) s := rfl

@[simp] theorem released_windows (l : List WinIx) (s : State) :
    (released l s).windows = releasedWindows l s.windows := rfl

theorem releasedWindows_append (l more : List WinIx) (t : Tbl 64 Window) :
    releasedWindows more (releasedWindows l t) = releasedWindows (l ++ more) t :=
  Tbl.ext_get fun w => by simp [releasedWindows, releasedWindow_add]

theorem releasedWindows_singleton (w : WinIx) (t : Tbl 64 Window) :
    releasedWindows [w] t = t.put w (releasedWindow 1 (t.get w)) := by
  refine Tbl.ext_get fun v => ?_
  rw [releasedWindows, Tbl.get_each, Tbl.get_put]
  by_cases hv : v = w
  · rw [hv, if_pos rfl, List.count_singleton_self]
  · rw [if_neg hv, List.count_eq_zero_of_not_mem (by simpa using hv), releasedWindow_zero]

@[simp] theorem releasedWindows_nil (t : Tbl 64 Window) : releasedWindows [] t = t :=
  Tbl.ext_get fun w => by rw [releasedWindows, Tbl.get_each, List.count_nil, releasedWindow_zero]

theorem closeEnding_eq_none {before after : Tbl 64 Window}
    (h : ∀ w, drainOutcome (before.get w) (after.get w) = none) (op : TicketOp) :
    closeEnding before after op = none := by
  cases op with
  | close w => exact h w
  | _ => rfl

theorem withOutcomes_of_noEnding {ending : Ending} (s : State) (h : ∀ op, ending op = none) :
    withOutcomes ending s = s :=
  withOutcomes_of_none fun k => by
    rw [Bool.eq_false_iff, Ne, Ticket.ends_iff]
    rintro ⟨op, -, hsome⟩
    rw [h op] at hsome
    cases hsome

@[simp] theorem released_nil (s : State) : released [] s = s := by
  have hnone := withOutcomes_of_noEnding s (closeEnding_eq_none (before := s.windows) (after := s.windows) (by simp))
  rw [released, releasedWindows_nil, hnone]

/-- References released in two goes are released together. -/
theorem released_released (l more : List WinIx) (s : State) :
    released more (released l s) = released (l ++ more) s := by
  have hending : ∀ op, (closeEnding s.windows (releasedWindows l s.windows) op).or
      (closeEnding (releasedWindows l s.windows) (releasedWindows (l ++ more) s.windows) op) =
      closeEnding s.windows (releasedWindows (l ++ more) s.windows) op := by
    intro op
    cases op with
    | close w =>
      simp only [closeEnding_close, releasedWindows, Tbl.get_each, List.count_append]
      exact drainOutcome_or _ _ _
    | _ => rfl
  rw [released_eq, released_windows, released_eq, releasedWindows_append, windowsEnded_windowsEnded, funext hending,
    released_eq]

/-! ### The close tickets of windows (R1, R20) -/

@[simp] theorem Ticket.ended_id (ending : Ending) (t : Ticket) (k : Fin 8) : (t.ended ending).id k = t.id k := by
  unfold Ticket.ended
  split
  · split <;> rfl
  · rfl

theorem Ticket.ended_opened_iff {ending : Ending} {t : Ticket} {op : TicketOp} :
    (t.ended ending).body = .opened op ↔ t.body = .opened op ∧ ending op = none := by
  cases hbody : t.body with
  | free | finished => simp [Ticket.ended, hbody]
  | opened op' =>
    cases hending : ending op' with
    | none =>
      rw [Ticket.ended_of_none hbody hending, hbody]
      constructor
      · intro h
        obtain rfl : op' = op := by simpa using h
        exact ⟨rfl, hending⟩
      · exact And.left
    | some e =>
      rw [Ticket.ended_of_some hbody hending]
      simp only [reduceCtorEq, TicketBody.opened.injEq, false_iff, not_and]
      rintro rfl
      rw [hending]
      exact Option.some_ne_none e

/-- A window's close ticket is an OPEN ticket for that window, and an OPEN ticket for a window is its close ticket. -/
structure CloseTicketsHeld (s : State) : Prop where
  open_of_field : ∀ w id, (s.windows.get w).closeTicket = some id →
    (s.tickets.get (ticketIndex id)).body = .opened (.close w) ∧
      (s.tickets.get (ticketIndex id)).id (ticketIndex id) = id
  field_of_open : ∀ w k, (s.tickets.get k).body = .opened (.close w) →
    (s.windows.get w).closeTicket = some ((s.tickets.get k).id k)

theorem TicketsHeld.closeTickets {s : State} (h : TicketsHeld s) : CloseTicketsHeld s where
  open_of_field := fun w id hid => by simpa [Ticket.isOpen] using h.close w id hid
  field_of_open := fun w k hbody => by
    simpa [TicketOp.inProgress] using h.progress k (.close w) (by rw [Ticket.isOpen, hbody, beq_self_eq_true])

/-- Releases keep the close ticket of a window unless they drain it. -/
theorem closeTicket_releasedWindow (k : Nat) (x : Window) :
    drainOutcome x (releasedWindow k x) = none ∧ (releasedWindow k x).closeTicket = x.closeTicket ∨
      (drainOutcome x (releasedWindow k x)).isSome = true ∧ (releasedWindow k x).closeTicket = none ∧
        x.closeTicket ≠ none ∨
      (releasedWindow k x).closeTicket = none ∧ x.closeTicket = none := by
  cases x with
  | free | staged | opened => exact .inl ⟨rfl, rfl⟩
  | closing m refs d ticket =>
    by_cases hlast : 0 < k ∧ refs ≤ k
    · simp only [releasedWindow, if_pos hlast]
      cases ticket with
      | none => cases d <;> exact .inr (.inr ⟨rfl, rfl⟩)
      | some id => cases d <;> exact .inr (.inl ⟨rfl, rfl, Option.some_ne_none id⟩)
    · simp only [releasedWindow, if_neg hlast]
      cases ticket <;> exact .inl ⟨rfl, rfl⟩

theorem CloseTicketsHeld.released {s : State} (h : CloseTicketsHeld s) (l : List WinIx) :
    CloseTicketsHeld (released l s) where
  open_of_field := fun w id hid => by
    change ((releasedWindows l s.windows).get w).closeTicket = some id at hid
    change ((s.tickets.each fun _ => Ticket.ended _).get _).body = _ ∧
      ((s.tickets.each fun _ => Ticket.ended _).get _).id _ = _
    rw [releasedWindows, Tbl.get_each] at hid
    rw [Tbl.get_each, Ticket.ended_opened_iff, Ticket.ended_id, closeEnding_close, releasedWindows, Tbl.get_each]
    rcases closeTicket_releasedWindow (l.count w) (s.windows.get w) with ⟨hnone, hkept⟩ | ⟨-, hgone, -⟩ | ⟨hgone, -⟩
    · obtain ⟨hbody, hsame⟩ := h.open_of_field w id (hkept ▸ hid)
      exact ⟨⟨hbody, hnone⟩, hsame⟩
    · rw [hgone] at hid
      cases hid
    · rw [hgone] at hid
      cases hid
  field_of_open := fun w k hbody => by
    change ((s.tickets.each fun _ => Ticket.ended _).get k).body = _ at hbody
    change ((releasedWindows l s.windows).get w).closeTicket =
      some (((s.tickets.each fun _ => Ticket.ended _).get k).id k)
    rw [Tbl.get_each, Ticket.ended_opened_iff, closeEnding_close] at hbody
    obtain ⟨hopen, hnone⟩ := hbody
    have hfield := h.field_of_open w k hopen
    rw [releasedWindows, Tbl.get_each] at hnone
    rw [releasedWindows, Tbl.get_each, Tbl.get_each, Ticket.ended_id, ← hfield]
    rcases closeTicket_releasedWindow (l.count w) (s.windows.get w) with ⟨-, hkept⟩ | ⟨hsome, -⟩ | ⟨-, hfree⟩
    · exact hkept
    · rw [hnone] at hsome
      cases hsome
    · rw [hfree] at hfield
      cases hfield

/-! ### One reference released (R18 to R20) -/

/-- Where no close ticket ends, a release moves its window alone. -/
theorem released_of_noOutcome {s : State} {w : WinIx} {y : Window} (hy : releasedWindow 1 (s.windows.get w) = y)
    (h : drainOutcome (s.windows.get w) y = none) : released [w] s = s.putWindow w y := by
  have hnone := withOutcomes_of_noEnding s (closeEnding_eq_none (before := s.windows)
    (after := s.windows.put w y) fun v => by
      rw [Tbl.get_put]
      split
      · rename_i hv
        rw [hv, h]
      · exact drainOutcome_self _)
  rw [released_eq, releasedWindows_singleton, hy, windowsEnded, hnone]
  rfl

/-- The drain of a window whose close ticket is OPEN ends that ticket. -/
theorem released_of_outcome {s : State} (h : CloseTicketsHeld s) {w : WinIx} {m : Mapping} {refs id : Nat}
    {d : Disposition} (hwindow : s.windows.get w = .closing m refs d (some id)) (hlast : refs ≤ 1) :
    released [w] s = s.drain w m d (some id) := by
  have hafter : releasedWindow 1 (s.windows.get w) = d.drained m := by
    rw [hwindow]
    simp only [releasedWindow, if_pos (And.intro Nat.zero_lt_one hlast)]
    cases d <;> rfl
  obtain ⟨hbody, hid⟩ := h.open_of_field w id (by rw [hwindow]; rfl)
  have hends : closeEnding s.windows (s.windows.put w (d.drained m)) (.close w) = some (.success, some d.detail) := by
    rw [closeEnding_close, Tbl.get_put, if_pos rfl, hwindow]
    cases d <;> rfl
  have hone : withOutcomes (closeEnding s.windows (s.windows.put w (d.drained m))) (s.putWindow w (d.drained m)) =
      (s.putWindow w (d.drained m)).finishTicket (ticketIndex id) .success (some d.detail) := by
    refine withOutcomes_of_one hbody hends fun j hj => ?_
    obtain ⟨op, hop, hsome⟩ := Ticket.ends_iff.1 hj
    cases op with
    | admission | ejection | recovery => cases hsome
    | close v =>
      rw [closeEnding_close, Tbl.get_put] at hsome
      by_cases hv : v = w
      · have hfield := h.field_of_open v j hop
        rw [hv, hwindow] at hfield
        obtain rfl : id = (s.tickets.get j).id j := by simpa [Window.closeTicket] using hfield
        exact (ticketIndex_id _ j).symm
      · rw [if_neg hv, drainOutcome_self] at hsome
        cases hsome
  rw [(s.drain_eq w m d).2 id, if_pos hid, ← hone, released_eq, releasedWindows_singleton, hafter]
  rfl

/-- One reference released, as the rules write it. -/
theorem State.releaseRef_eq {s : State} (h : CloseTicketsHeld s) (w : WinIx) : s.releaseRef w = released [w] s := by
  cases hwindow : s.windows.get w with
  | free | staged =>
    have hself : s.putWindow w (s.windows.get w) = s := by rw [State.putWindow, put_get_self]
    rw [released_of_noOutcome (y := s.windows.get w) (by rw [hwindow]; rfl) (drainOutcome_self _), hself]
    simp [State.releaseRef, hwindow]
  | opened m refs =>
    rw [State.releaseRef_of_opened hwindow,
      released_of_noOutcome (y := .opened m (refs - 1)) (by rw [hwindow]; rfl) (by rw [hwindow]; rfl)]
  | closing m refs d ticket =>
    by_cases hlast : refs ≤ 1
    · rw [State.releaseRef_of_last hwindow hlast]
      cases ticket with
      | some id => exact (released_of_outcome h hwindow hlast).symm
      | none =>
        have hafter : releasedWindow 1 (s.windows.get w) = d.drained m := by
          rw [hwindow]
          simp only [releasedWindow, if_pos (And.intro Nat.zero_lt_one hlast)]
          cases d <;> rfl
        exact (released_of_noOutcome hafter (by rw [hwindow]; exact drainOutcome_of_noTicket rfl _)).symm
    · have hmore : ¬(0 < 1 ∧ refs ≤ 1) := fun h => hlast h.2
      rw [State.releaseRef_of_closing hwindow (by omega)]
      refine (released_of_noOutcome ?_ ?_).symm
      · rw [hwindow]
        simp only [releasedWindow, if_neg hmore]
      · rw [hwindow]
        cases ticket <;> rfl

/-- References released one after another. -/
theorem State.foldl_releaseRef {s : State} (h : CloseTicketsHeld s) (l : List WinIx) :
    l.foldl State.releaseRef s = released l s := by
  induction l generalizing s with
  | nil => exact (released_nil s).symm
  | cons w l ih => rw [List.foldl_cons, State.releaseRef_eq h, ih (h.released [w]), released_released]; rfl

/-! ### Posted failures recorded (R67) -/

/-- A slot with one more failed posted write in its record. -/
theorem State.recordPosted_closed (s : State) (n : SlotIx) (w : WinIx) (addr : Word) (cause : PostedCause) :
    s.recordPosted n w addr cause =
      withCauses ⟨8 + n.val, by omega⟩
        (recordCauses (s.slots.get n).posted (recorded (s.slots.get n).posted w addr cause))
        { s with
          slots := s.slots.put n
            { s.slots.get n with posted := recorded (s.slots.get n).posted w addr cause } } := by
  obtain ⟨hfirst, hsecond, hmore⟩ := s.recordPosted_eq n w addr cause
  cases hposted : (s.slots.get n).posted with
  | none =>
    have hcauses : recordCauses none (recorded none w addr cause) = 0x40 := if_neg (by simp [recorded])
    rw [hfirst hposted, State.raise_slot (n := n) rfl, hcauses]
    rfl
  | some f =>
    by_cases hflag : f.more = true
    · have hsame : recorded (some f) w addr cause = some f := by
        obtain ⟨window, addr, cause, more⟩ := f
        obtain rfl : more = true := hflag
        rfl
      have hrecord : ({ s.slots.get n with posted := some f } : Slot) = s.slots.get n := by rw [← hposted]
      have hcauses : recordCauses (some f) (some f) = 0 := if_pos rfl
      rw [hmore f hposted hflag, hsame, hcauses, withCauses_zero, hrecord, put_get_self]
    · have hflag : f.more = false := by simpa using hflag
      have hcauses : recordCauses (some f) (recorded (some f) w addr cause) = 0x40 := by
        refine if_neg fun h => ?_
        have hmore : f.more = true := congrArg PostedFailure.more (Option.some.inj h)
        rw [hflag] at hmore
        cases hmore
      rw [hsecond f hposted hflag, State.raise_slot (n := n) rfl, hcauses]
      rfl

/-- The posted requests among those aborted, recorded in their order (R41, R108). -/
def abortsRecorded (n : SlotIx) (l : List Owed) (s : State) : State :=
  withCauses ⟨8 + n.val, by omega⟩
    (recordCauses (s.slots.get n).posted (recordedAll (s.slots.get n).posted l))
    { s with slots := s.slots.put n { s.slots.get n with posted := recordedAll (s.slots.get n).posted l } }

theorem recordedAll_cons (record : Option PostedFailure) (o : Owed) (l : List Owed) :
    recordedAll record (o :: l) = recordedAll (recordedAll record [o]) l := by
  cases htag : o.hostTag with
  | some t =>
    have hnone : recordedAll record [o] = record := by simp [recordedAll, htag]
    rw [hnone]
    simp only [recordedAll, List.filter_cons, htag, Option.isNone_some, Bool.false_eq_true, if_false]
  | none =>
    cases hl : l.filter fun o => o.hostTag.isNone <;> cases record <;> simp [recordedAll, htag, hl]

theorem recordedAll_nil (record : Option PostedFailure) : recordedAll record [] = record := by
  cases record <;> rfl

/-- A record, once changed, does not change back. -/
theorem recordCauses_or (record : Option PostedFailure) (o : Owed) (l : List Owed) :
    recordCauses record (recordedAll record [o]) |||
        recordCauses (recordedAll record [o]) (recordedAll (recordedAll record [o]) l) =
      recordCauses record (recordedAll (recordedAll record [o]) l) := by
  cases htag : o.hostTag with
  | some t =>
    have hsame : recordedAll record [o] = record := by simp [recordedAll, htag]
    simp [hsame, recordCauses]
  | none =>
    cases record with
    | some f =>
      have hfirst : recordedAll (some f) [o] = some { f with more := true } := by simp [recordedAll, htag]
      have hrest : recordedAll (some { f with more := true }) l = some { f with more := true } := by
        cases hl : l.filter fun o => o.hostTag.isNone <;> simp [recordedAll, hl]
      simp [hfirst, hrest, recordCauses]
    | none =>
      have hsome : ∀ f : PostedFailure, recordCauses none (some f) = 0x40 := fun f => if_neg (by simp)
      cases hfirst : recordedAll none [o] with
      | none => simp [recordedAll, htag] at hfirst
      | some f =>
        cases hrest : recordedAll (some f) l with
        | none => cases hl : l.filter fun o => o.hostTag.isNone <;> simp [recordedAll, hl] at hrest
        | some g =>
          rw [hsome, hsome, recordCauses]
          split <;> decide

theorem abortsRecorded_cons (n : SlotIx) (o : Owed) (l : List Owed) (s : State) :
    abortsRecorded n l (abortsRecorded n [o] s) = abortsRecorded n (o :: l) s := by
  have hget : (abortsRecorded n [o] s).slots.get n =
      { s.slots.get n with posted := recordedAll (s.slots.get n).posted [o] } := by
    change (s.slots.put n _).get n = _
    rw [Tbl.get_put, if_pos rfl]
  have hslots : (abortsRecorded n [o] s).slots =
      s.slots.put n { s.slots.get n with posted := recordedAll (s.slots.get n).posted [o] } := rfl
  have hwith : ∀ slots : Tbl 8 Slot, { abortsRecorded n [o] s with slots } =
      withCauses ⟨8 + n.val, by omega⟩
        (recordCauses (s.slots.get n).posted (recordedAll (s.slots.get n).posted [o])) { s with slots } :=
    fun slots => rfl
  rw [abortsRecorded, hget, hslots, put_put_same, hwith, withCauses_same]
  simp only
  rw [recordCauses_or, abortsRecorded, recordedAll_cons _ o l]

/-! ### Requests answered with one code (R41, R108) -/

/-- A state after the host tags of `l` are answered with `code` and freed. -/
def answered (code : RespCode) (l : List HostTag) (s : State) : State :=
  { s with
    hostTable := s.hostTable.each fun t b => b && !l.contains t
    out :=
      { s.out with
        responses := s.out.responses.each fun t x => if l.contains t then some { code, data := none } else x } }

theorem answered_nil (code : RespCode) (s : State) : answered code [] s = s := by
  have htable : (s.hostTable.each fun t b => b && !([] : List HostTag).contains t) = s.hostTable :=
    Tbl.ext_get fun t => by simp
  have hresponses : (s.out.responses.each fun t x => if ([] : List HostTag).contains t then
      some { code, data := none } else x) = s.out.responses := Tbl.ext_get fun t => by simp
  rw [answered, htable, hresponses]

theorem State.answer_eq (s : State) (t : HostTag) (code : RespCode) :
    s.answer t code none = answered code [t] s := by
  have htable : s.hostTable.put t false = s.hostTable.each fun u b => b && !([t] : List HostTag).contains u :=
    Tbl.ext_get fun u => by
      rw [Tbl.get_put, Tbl.get_each]
      split <;> simp_all
  have hresponses : s.out.responses.put t (some { code, data := none }) =
      s.out.responses.each fun u x => if ([t] : List HostTag).contains u then some { code, data := none } else x :=
    Tbl.ext_get fun u => by
      rw [Tbl.get_put, Tbl.get_each]
      split <;> simp_all
  rw [answered, ← htable, ← hresponses]
  rfl

theorem answered_answered (code : RespCode) (l more : List HostTag) (s : State) :
    answered code more (answered code l s) = answered code (l ++ more) s := by
  have htable : ((s.hostTable.each fun u b => b && !l.contains u).each fun u b => b && !more.contains u) =
      s.hostTable.each fun u b => b && !(l ++ more).contains u :=
    Tbl.ext_get fun u => by
      simp only [Tbl.get_each, List.contains_append, Bool.not_or, Bool.and_assoc]
  have hresponses : ((s.out.responses.each fun u x => if l.contains u then
      some { code, data := none } else x).each fun u x => if more.contains u then some { code, data := none } else x) =
      s.out.responses.each fun u x => if (l ++ more).contains u then some { code, data := none } else x :=
    Tbl.ext_get fun u => by
      simp only [Tbl.get_each, List.contains_append, Bool.or_eq_true]
      by_cases hmore : more.contains u = true
      · rw [if_pos hmore, if_pos (.inr hmore)]
      · simp only [hmore, Bool.false_eq_true, if_false, or_false]
  rw [answered, answered, answered, ← htable, ← hresponses]

/-! ### The requests of an engine aborted (R41, R108) -/

/-- The host tags that are owed an answer. -/
def answerTags (l : List Owed) : List HostTag := l.filterMap fun o => if o.orphaned then none else o.hostTag

/-- A state after the requests of `l` are aborted: references released, host tags answered, and by a fault posted
failures recorded. -/
def aborted (n : SlotIx) (why : Teardown) (l : List Owed) (s : State) : State :=
  match why with
  | .fault =>
    abortsRecorded n l (answered why.code (answerTags l) (released (l.map Owed.window) s))
  | .removal => answered why.code (answerTags l) (released (l.map Owed.window) s)

theorem answerTags_cons (o : Owed) (l : List Owed) : answerTags (o :: l) = answerTags [o] ++ answerTags l := by
  simp only [answerTags, List.filterMap_cons]
  split <;> rfl

theorem withCauses_swap (i j : Fin 18) (a b : Byte) (s : State) :
    withCauses i a (withCauses j b s) = withCauses j b (withCauses i a s) := by
  by_cases h : i = j
  · rw [h, withCauses_comm]
  · have hput : ∀ x y : Source, (s.sources.put j x).put i y = (s.sources.put i y).put j x := fun x y =>
      Tbl.ext_get fun k => by
        simp only [Tbl.get_put]
        by_cases hk : k = i
        · rw [if_pos hk, if_neg (hk ▸ h), if_pos hk]
        · simp only [if_neg hk]
    simp only [withCauses, Tbl.get_put, if_neg h, if_neg (Ne.symm h)]
    rw [hput]

theorem windowsEnded_answered (ending : Ending) (windows : Tbl 64 Window) (code : RespCode) (tags : List HostTag)
    (s : State) :
    windowsEnded ending windows (answered code tags s) = answered code tags (windowsEnded ending windows s) :=
  rfl

theorem released_answered (l : List WinIx) (code : RespCode) (tags : List HostTag) (s : State) :
    released l (answered code tags s) = answered code tags (released l s) := by
  rw [released_eq, released_eq]
  exact windowsEnded_answered _ _ code tags s

theorem answered_abortsRecorded (code : RespCode) (tags : List HostTag) (n : SlotIx) (l : List Owed) (s : State) :
    answered code tags (abortsRecorded n l s) = abortsRecorded n l (answered code tags s) := rfl

theorem windowsEnded_withCauses (ending : Ending) (windows : Tbl 64 Window) (i : Fin 18) (causes : Byte) (s : State) :
    windowsEnded ending windows (withCauses i causes s) = withCauses i causes (windowsEnded ending windows s) := by
  have hswap := withCauses_swap 16 i (if (List.finRange 8).any fun k => (s.tickets.get k).ends ending then 0x02 else 0)
    causes { s with tickets := s.tickets.each fun _ => Ticket.ended ending, windows }
  exact hswap

theorem windowsEnded_abortsRecorded (ending : Ending) (windows : Tbl 64 Window) (n : SlotIx) (owed : List Owed)
    (s : State) :
    windowsEnded ending windows (abortsRecorded n owed s) = abortsRecorded n owed (windowsEnded ending windows s) := by
  rw [abortsRecorded, windowsEnded_withCauses]
  rfl

theorem released_abortsRecorded (l : List WinIx) (n : SlotIx) (owed : List Owed) (s : State) :
    released l (abortsRecorded n owed s) = abortsRecorded n owed (released l s) := by
  rw [released_eq, released_eq]
  exact windowsEnded_abortsRecorded _ _ n owed s

theorem State.abort_closed {s : State} (h : CloseTicketsHeld s) (n : SlotIx) (why : Teardown) (o : Owed) :
    s.abort n why o = aborted n why [o] s := by
  obtain ⟨hanswer, horphan, hposted, hsilent⟩ := State.abort_eq n why s o
  have hrelease := State.releaseRef_eq h o.window
  have hunposted : o.hostTag ≠ none → ∀ t : State, abortsRecorded n [o] t = t := fun hsome t => by
    have hsame : recordedAll (t.slots.get n).posted [o] = (t.slots.get n).posted := by
      obtain ⟨x, hx⟩ := Option.ne_none_iff_exists'.1 hsome
      simp [recordedAll, hx]
    have hcauses : recordCauses (t.slots.get n).posted (t.slots.get n).posted = 0 := if_pos rfl
    rw [abortsRecorded, hsame, hcauses, withCauses_zero]
    exact t.putSlot_self n
  cases htag : o.hostTag with
  | some t =>
    have hunposted := hunposted (by rw [htag]; exact Option.some_ne_none t)
    by_cases ho : o.orphaned = true
    · have htags : answerTags [o] = [] := by simp [answerTags, ho]
      rw [horphan t htag ho, hrelease]
      cases why with
      | fault => rw [aborted, hunposted, htags, answered_nil]; rfl
      | removal => rw [aborted, htags, answered_nil]; rfl
    · have ho : o.orphaned = false := by simpa using ho
      have htags : answerTags [o] = [t] := by simp [answerTags, ho, htag]
      rw [hanswer t htag ho, hrelease, State.answer_eq]
      cases why with
      | fault => rw [aborted, hunposted, htags]; rfl
      | removal => rw [aborted, htags]; rfl
  | none =>
    have htags : answerTags [o] = [] := by simp [answerTags, htag]
    cases why with
    | fault =>
      have hrecord : ∀ record, recordedAll record [o] = recorded record o.window o.addr .aborted := fun record => by
        cases record <;> simp [recordedAll, recorded, htag]
      rw [hposted htag rfl, hrelease, aborted, htags, answered_nil, State.recordPosted_closed, abortsRecorded, hrecord]
      rfl
    | removal => rw [hsilent htag rfl, hrelease, aborted, htags, answered_nil]; rfl

theorem CloseTicketsHeld.aborted {s : State} (h : CloseTicketsHeld s) (n : SlotIx) (why : Teardown) (l : List Owed) :
    CloseTicketsHeld (aborted n why l s) := by
  obtain ⟨hopen, hfield⟩ := h.released (l.map Owed.window)
  cases why <;> exact ⟨hopen, hfield⟩

theorem aborted_cons (n : SlotIx) (why : Teardown) (o : Owed) (l : List Owed) (s : State) :
    aborted n why l (aborted n why [o] s) = aborted n why (o :: l) s := by
  cases why with
  | fault =>
    simp only [aborted]
    rw [released_abortsRecorded, answered_abortsRecorded, abortsRecorded_cons, released_answered, answered_answered,
      released_released, ← answerTags_cons]
    rfl
  | removal =>
    simp only [aborted]
    rw [released_answered, answered_answered, released_released, ← answerTags_cons]
    rfl

theorem aborted_nil (n : SlotIx) (why : Teardown) (s : State) : aborted n why [] s = s := by
  have hrecord : ∀ t : State, abortsRecorded n [] t = t := fun t => by
    have hcauses : recordCauses (t.slots.get n).posted (t.slots.get n).posted = 0 := if_pos rfl
    rw [abortsRecorded, recordedAll_nil, hcauses, withCauses_zero]
    exact t.putSlot_self n
  have hanswer : answered why.code (answerTags []) (released [] s) = s := by
    rw [released_nil]
    exact answered_nil _ s
  cases why with
  | fault => exact (hrecord _).trans hanswer
  | removal => exact hanswer

/-- The requests of an engine aborted one after another. -/
theorem State.foldl_abort {s : State} (h : CloseTicketsHeld s) (n : SlotIx) (why : Teardown) (l : List Owed) :
    l.foldl (State.abort n why) s = aborted n why l s := by
  induction l generalizing s with
  | nil => exact (aborted_nil n why s).symm
  | cons o l ih => rw [List.foldl_cons, State.abort_closed h, ih (h.aborted n why [o]), aborted_cons]

end Sys2Proof.Machine

/-! PROOFS. Slot faults, removals and aborted ejections (R53, R63, R70). -/

namespace Sys2Proof.Machine

-- One proof at a time: side by side they take more threads than the check's memory limit allows.
set_option Elab.async false

open Sys2Proof.Expected

/-! ### Safe on the records it speaks of -/

/-- `Safe` speaks of these records alone, out of part reset. -/
theorem Safe.of_records {s t : State} (h : Safe s) (hrun : t.partReset = false) (hhostTable : t.hostTable = s.hostTable)
    (hwindows : t.windows = s.windows) (hslots : t.slots = s.slots) (hlinks : t.links = s.links)
    (hidentQueue : t.identQueue = s.identQueue) (hident : t.ident = s.ident) (hconfig : t.config = s.config)
    (htickets : t.tickets = s.tickets) : Safe t := by
  obtain ⟨hlifecycle, -, hpower, htimers, hranges, hwins, hreferences, hqueues, hhostTags, hticks⟩ := h
  cases s
  cases t
  simp only at hrun hhostTable hwindows hslots hlinks hidentQueue hident hconfig htickets
  subst hrun hhostTable hwindows hslots hlinks hidentQueue hident hconfig htickets
  exact
    { lifecycle := ⟨hlifecycle.link, hlifecycle.queueOnce, hlifecycle.queueExact, hlifecycle.reading, hlifecycle.served,
        hlifecycle.sound⟩
      reset := fun h => Bool.noConfusion h
      power := ⟨hpower.slot, hpower.budget⟩
      timers := htimers
      ranges := ⟨hranges.window, hranges.profile, hranges.budget⟩
      windows := ⟨hwins.apart, hwins.grantOnce, hwins.fits⟩
      references := ⟨hreferences.counted, hreferences.own⟩
      queues := ⟨hqueues.capacity, hqueues.tags, hqueues.idle⟩
      hostTags := hhostTags
      tickets :=
        ⟨hticks.windowOnce, hticks.slotOnce, hticks.progress, hticks.close, hticks.admission, hticks.ejection⟩ }

/-! ### The windows of a slot in a teardown (R21 to R23) -/

/-- The references of a window that an engine holds are all of them for its own slot, and none for another. -/
theorem ReferencesHeld.count_eq {s : State} (h : ReferencesHeld s) (n : SlotIx) (w : WinIx) :
    (s.links.get n).heldWindows.count w = if (s.windows.get w).ofSlot n then (s.windows.get w).refs else 0 := by
  split
  · rename_i hslot
    rw [h.refs_eq hslot]
  · rename_i hslot
    exact List.count_eq_zero_of_not_mem fun hmem => hslot (h.own n w hmem)

/-- The window holds a reference while it is CLOSING (R20). -/
def Window.closingHeld : Window → Prop
  | .closing _ refs _ _ => 1 ≤ refs
  | _ => True

theorem WindowsHeld.closingHeld {s : State} (h : WindowsHeld s) (w : WinIx) : (s.windows.get w).closingHeld := by
  have hfits := h.fits w
  cases hwindow : s.windows.get w with
  | closing m refs d ticket =>
    simp only [hwindow, Window.fits, Bool.and_eq_true, decide_eq_true_eq] at hfits
    exact hfits.2
  | _ => trivial

/-- A window withdrawn by `before`, whose references are then released, is as `after` gives it, and its close ticket
ends as it does between the two ends. -/
def withdraws (n : SlotIx) (before after : Window → Window) (x : Window) : Prop :=
  (before x).closeTicket = x.closeTicket ∧
    releasedWindow (if x.ofSlot n then x.refs else 0) (before x) = after x ∧
    drainOutcome (before x) (after x) = drainOutcome x (after x)

theorem releasedWindow_last (m : Mapping) {refs : Nat} (h : 1 ≤ refs) (d : Disposition) (ticket : Option Nat) :
    releasedWindow refs (.closing m refs d ticket) = d.drained m := by
  have hlast : 0 < refs ∧ refs ≤ refs := ⟨h, Nat.le_refl refs⟩
  simp only [releasedWindow]
  rw [if_pos hlast]
  cases d <;> rfl

theorem withdraws_leaveActive (n : SlotIx) {x : Window} (h : x.closingHeld) :
    withdraws n (Window.leaveActive n) (drainedWindow n) x := by
  cases x with
  | free | staged => exact ⟨rfl, by split <;> rfl, rfl⟩
  | opened m refs =>
    by_cases hslot : m.slot = n
    · have hof : (Window.opened m refs).ofSlot n = true := by simp [Window.ofSlot, Window.mapping, hslot]
      rw [withdraws, if_pos hof]
      by_cases hrefs : refs = 0
      · simp only [Window.leaveActive, drainedWindow, if_pos hslot, if_pos hrefs]
        exact ⟨rfl, rfl, rfl⟩
      · have hlast := releasedWindow_last m (Nat.pos_of_ne_zero hrefs) .toStaged none
        simp only [Window.leaveActive, drainedWindow, if_pos hslot, if_neg hrefs, Window.refs, hlast]
        exact ⟨rfl, rfl, rfl⟩
    · have hof : ¬(Window.opened m refs).ofSlot n = true := by simp [Window.ofSlot, Window.mapping, hslot]
      rw [withdraws, if_neg hof, releasedWindow_zero]
      simp only [Window.leaveActive, drainedWindow, if_neg hslot, and_self]
  | closing m refs d ticket =>
    refine ⟨rfl, ?_, rfl⟩
    by_cases hslot : m.slot = n
    · have hof : (Window.closing m refs d ticket).ofSlot n = true := by simp [Window.ofSlot, Window.mapping, hslot]
      have hlast := releasedWindow_last m h d ticket
      rw [if_pos hof]
      cases d <;> simp only [Window.leaveActive, Window.refs, hlast, Disposition.drained, drainedWindow, if_pos hslot]
    · have hof : ¬(Window.closing m refs d ticket).ofSlot n = true := by simp [Window.ofSlot, Window.mapping, hslot]
      rw [if_neg hof, releasedWindow_zero]
      cases d <;> simp only [Window.leaveActive, drainedWindow, if_neg hslot]

theorem withdraws_remove (n : SlotIx) {x : Window} (h : x.closingHeld) :
    withdraws n (Window.remove n) (removedWindow n) x := by
  by_cases hof : x.ofSlot n = true
  · rw [withdraws, if_pos hof, removedWindow, if_pos hof]
    cases x with
    | free => exact ⟨rfl, rfl, rfl⟩
    | staged m =>
      have hslot : m.slot = n := by simpa [Window.ofSlot, Window.mapping] using hof
      simp only [Window.remove, if_pos hslot]
      exact ⟨rfl, rfl, rfl⟩
    | opened m refs =>
      have hslot : m.slot = n := by simpa [Window.ofSlot, Window.mapping] using hof
      by_cases hrefs : refs = 0
      · simp only [Window.remove, if_pos hslot, if_pos hrefs]
        exact ⟨rfl, rfl, rfl⟩
      · have hlast := releasedWindow_last m (Nat.pos_of_ne_zero hrefs) .toFree none
        simp only [Window.remove, if_pos hslot, if_neg hrefs, Window.refs, hlast]
        exact ⟨rfl, rfl, rfl⟩
    | closing m refs d ticket =>
      have hslot : m.slot = n := by simpa [Window.ofSlot, Window.mapping] using hof
      have hlast := releasedWindow_last m h .toFree ticket
      simp only [Window.remove, if_pos hslot, Window.refs, hlast]
      cases ticket <;> exact ⟨rfl, rfl, rfl⟩
  · rw [withdraws, if_neg hof, releasedWindow_zero, removedWindow, if_neg hof]
    cases x with
    | free => exact ⟨rfl, rfl, rfl⟩
    | staged m | opened m | closing m =>
      have hslot : ¬m.slot = n := by simpa [Window.ofSlot, Window.mapping] using hof
      simp only [Window.remove, if_neg hslot, and_self]

/-! ### The teardown (R41, R108) -/

theorem State.eachWindow_get (s : State) (f : Window → Window) (w : WinIx) :
    (s.eachWindow f).windows.get w = f (s.windows.get w) := by
  rw [State.eachWindow_windows, Tbl.get_each]

theorem CloseTicketsHeld.eachWindow {s : State} (h : CloseTicketsHeld s) {f : Window → Window}
    (hf : ∀ w, (f (s.windows.get w)).closeTicket = (s.windows.get w).closeTicket) :
    CloseTicketsHeld (s.eachWindow f) where
  open_of_field := fun w id hid => by
    rw [State.eachWindow_get, hf] at hid
    rw [State.eachWindow_tickets]
    exact h.open_of_field w id hid
  field_of_open := fun w k hbody => by
    rw [State.eachWindow_tickets] at hbody
    rw [State.eachWindow_get, hf, State.eachWindow_tickets]
    exact h.field_of_open w k hbody

/-- The work of a slot withdrawn, as a run of operations. -/
theorem withdrawn_eq (n : SlotIx) (code : RespCode) (window : Window → Window) (s : State) :
    withdrawn n code window s =
      (answered code (s.links.get n).owedTags
        (windowsEnded (closeEnding s.windows (s.windows.each fun _ => window)) (s.windows.each fun _ => window)
          s.quiet)).putLink n Link.reset := by
  have hresponses : (Outputs.nothing.responses.each fun t x =>
      if (s.links.get n).owedTags.contains t then some { code, data := none } else x) =
      Tbl.make fun t => if (s.links.get n).owedTags.contains t then some { code, data := none } else none :=
    Tbl.ext_get fun t => by rw [Tbl.get_each, Tbl.get_make, Outputs.nothing, Tbl.get_fill]
  have hfields : ∀ (ending : Ending) (windows : Tbl 64 Window),
      { withOutcomes ending s with
        windows
        links := s.links.put n Link.reset
        hostTable := s.hostTable.each fun t b => b && !(s.links.get n).owedTags.contains t
        out :=
          { Outputs.nothing with
            responses := Outputs.nothing.responses.each fun t x =>
              if (s.links.get n).owedTags.contains t then some { code, data := none } else x } } =
      (answered code (s.links.get n).owedTags (windowsEnded ending windows s.quiet)).putLink n Link.reset :=
    fun ending windows => rfl
  rw [← hfields, hresponses, withdrawn]

theorem windowsEnded_eachWindow (ending : Ending) (windows : Tbl 64 Window) (f : Window → Window) (s : State) :
    windowsEnded ending windows (s.eachWindow f) = windowsEnded ending windows s := by
  have hreplaced : ∀ before, windowsEnded ending windows { s with windows := before } = windowsEnded ending windows s :=
    fun before => rfl
  rw [State.eachWindow, hreplaced]

/-- Close tickets end alike where each window does. -/
theorem closeEnding_congr {before before' after after' : Tbl 64 Window}
    (h : ∀ w, drainOutcome (before.get w) (after.get w) = drainOutcome (before'.get w) (after'.get w)) :
    closeEnding before after = closeEnding before' after' := funext fun op => by
  cases op with
  | close w => exact h w
  | _ => rfl

/-- The references of an engine released, its windows having been withdrawn. -/
theorem released_eachWindow {s : State} (h : ReferencesHeld s) {n : SlotIx} {before after : Window → Window}
    (hwindow : ∀ w, withdraws n before after (s.windows.get w)) :
    released (s.links.get n).heldWindows (s.quiet.eachWindow before) =
      windowsEnded (closeEnding s.windows (s.windows.each fun _ => after)) (s.windows.each fun _ => after) s.quiet := by
  have hafter : releasedWindows (s.links.get n).heldWindows (s.windows.each fun _ => before) =
      s.windows.each fun _ => after :=
    Tbl.ext_get fun w => by
      obtain ⟨-, hreleased, -⟩ := hwindow w
      rw [releasedWindows, Tbl.get_each, Tbl.get_each, Tbl.get_each, h.count_eq, hreleased]
  have hending : closeEnding (s.windows.each fun _ => before) (s.windows.each fun _ => after) =
      closeEnding s.windows (s.windows.each fun _ => after) := closeEnding_congr fun w => by
    obtain ⟨-, -, houtcome⟩ := hwindow w
    rw [Tbl.get_each, Tbl.get_each, houtcome]
  rw [released_eq, State.eachWindow_windows, State.quiet_windows, hafter, hending, windowsEnded_eachWindow]

/-- A teardown whose windows are withdrawn, as the rules write it; a fault also records posted failures. -/
theorem State.teardown_eq {s : State} (h : Safe s) {n : SlotIx} {before after : Window → Window}
    (hwindow : ∀ w, withdraws n before after (s.windows.get w)) :
    (s.quiet.eachWindow before).teardown n .fault =
        abortsRecorded n (s.links.get n).owed (withdrawn n .slotFault after s) ∧
      (s.quiet.eachWindow before).teardown n .removal = withdrawn n .slotGone after s := by
  have hclose : CloseTicketsHeld (s.quiet.eachWindow before) :=
    CloseTicketsHeld.eachWindow (s := s.quiet)
      ⟨h.tickets.closeTickets.open_of_field, h.tickets.closeTickets.field_of_open⟩
      fun w => (hwindow w).1
  have hlinks : (s.quiet.eachWindow before).links = s.links := State.eachWindow_links s.quiet before
  have hreleased := released_eachWindow h.references hwindow
  have hfold := fun why => State.foldl_abort hclose n why (s.links.get n).owed
  have hput : ∀ t : State, (abortsRecorded n (s.links.get n).owed t).putLink n Link.reset =
      abortsRecorded n (s.links.get n).owed (t.putLink n Link.reset) := fun t => rfl
  rw [withdrawn_eq, withdrawn_eq, ← hreleased]
  constructor
  · rw [State.teardown, hlinks, hfold, aborted, hput]
    rfl
  · rw [State.teardown, hlinks, hfold, aborted]
    rfl

@[simp] theorem withdrawn_slots (n : SlotIx) (code : RespCode) (window : Window → Window) (s : State) :
    (withdrawn n code window s).slots = s.slots := by
  simp only [withdrawn, withOutcomes, withCauses]

@[simp] theorem withdrawn_links (n : SlotIx) (code : RespCode) (window : Window → Window) (s : State) :
    (withdrawn n code window s).links = s.links.put n Link.reset := by
  simp only [withdrawn]

/-- The tickets of a state are those of another but for some that have ended. -/
def ticketsEnded (s t : State) : Prop := ∃ ending, t.tickets = s.tickets.each fun _ => Ticket.ended ending

theorem slotTicketOnce_of_ended {s t : State} (h : ticketsEnded s t) {n : SlotIx} (once : slotTicketOnce s n) :
    slotTicketOnce t n := by
  obtain ⟨ending, htickets⟩ := h
  have hopen : ∀ k, (t.tickets.get k).openFor (TicketOp.onSlot n) = true →
      (s.tickets.get k).openFor (TicketOp.onSlot n) = true := fun k => by
    rw [htickets, Tbl.get_each, Ticket.openFor_iff, Ticket.openFor_iff]
    rintro ⟨op, hbody, hop⟩
    exact ⟨op, (Ticket.ended_opened_iff.1 hbody).1, hop⟩
  exact fun j k hj hk => once j k (hopen j hj) (hopen k hk)

theorem ticketsEnded_withdrawn (n : SlotIx) (code : RespCode) (window : Window → Window) (s : State) :
    ticketsEnded s (withdrawn n code window s) := by
  refine ⟨closeEnding s.windows (s.windows.each fun _ => window), ?_⟩
  simp only [withdrawn, withOutcomes_eq, withCauses]

/-! ### The slot record after a teardown (R63, R70) -/

/-- A slot whose posted failures have been recorded is powered off under a cause of its own. -/
theorem State.raise_powerOff (s : State) (n : SlotIx) (l : List Owed) (state : SlotState) {c : Cause}
    (hc : c.source = slotSource n) :
    ((abortsRecorded n l s).putSlot n { ((abortsRecorded n l s).slots.get n).powerOff with state }).raise c =
      withCauses ⟨8 + n.val, by omega⟩
        (c.bit ||| recordCauses (s.slots.get n).posted (recordedAll (s.slots.get n).posted l))
        { s with
          slots := s.slots.put n
            { s.slots.get n with
              state
              committedUnits := 0
              mainPower := false
              usableTags := none
              posted := recordedAll (s.slots.get n).posted l
              powerTimer := none
              quiesceTimer := none } } := by
  have hslots : (abortsRecorded n l s).slots =
      s.slots.put n { s.slots.get n with posted := recordedAll (s.slots.get n).posted l } := rfl
  have hget : (abortsRecorded n l s).slots.get n =
      { s.slots.get n with posted := recordedAll (s.slots.get n).posted l } := by
    rw [hslots, Tbl.get_put, if_pos rfl]
  have hwith : ∀ slots : Tbl 8 Slot, { abortsRecorded n l s with slots } =
      withCauses ⟨8 + n.val, by omega⟩
        (recordCauses (s.slots.get n).posted (recordedAll (s.slots.get n).posted l)) { s with slots } :=
    fun slots => rfl
  rw [State.raise_slot hc, State.putSlot, hget, hslots, put_put_same, hwith, withCauses_same, BitVec.or_comm]
  rfl

/-- A slot fault on a safe state, as the rules write it (R63). -/
theorem State.faultSlot_eq {s : State} (h : Safe s) (n : SlotIx) (cause : FaultCause) :
    s.quiet.faultSlot n cause = faultTaken n cause s := by
  have hwindow := fun w => withdraws_leaveActive n (h.windows.closingHeld w)
  have hraise := State.raise_powerOff (withdrawn n .slotFault (drainedWindow n) s) n (s.links.get n).owed
    (.faulted cause) (c := .faulted n) rfl
  rw [withdrawn_slots] at hraise
  rw [State.faultSlot, (State.teardown_eq h hwindow).1, hraise, State.finishSlotTicket_eq]
  · rfl
  · exact slotTicketOnce_of_ended (ticketsEnded_withdrawn n .slotFault (drainedWindow n) s) (h.tickets.slotOnce n)

/-- A slot that is EJECTING has no OPEN window (R12, R21). -/
theorem Safe.leaveActive_eq {s : State} (h : Safe s) {n : SlotIx} (hstate : (s.slots.get n).state = .ejecting)
    (w : WinIx) : (s.windows.get w).leaveActive n = s.windows.get w := by
  have hfits := h.windows.fits w
  cases hwindow : s.windows.get w with
  | opened m refs =>
    have hactive : (s.slots.get m.slot).state = .active := by simpa [hwindow, Window.fits] using hfits
    have hslot : ¬m.slot = n := by
      rintro rfl
      rw [hstate] at hactive
      cases hactive
    simp only [Window.leaveActive, if_neg hslot]
  | _ => rfl

/-- A link loss while EJECTING, as the rules write it (R70). -/
theorem State.abortEjection_eq {s : State} (h : Safe s) {n : SlotIx} (hstate : (s.slots.get n).state = .ejecting) :
    s.quiet.abortEjection n = ejectionAborted n s := by
  have hwindow := fun w => withdraws_leaveActive n (h.windows.closingHeld w)
  have hkept : s.quiet.eachWindow (Window.leaveActive n) = s.quiet := by
    have hsame : (s.windows.each fun _ => Window.leaveActive n) = s.windows :=
      Tbl.ext_get fun w => by rw [Tbl.get_each, h.leaveActive_eq hstate]
    rw [State.eachWindow, State.quiet_windows, hsame]
    rfl
  have hteardown := (State.teardown_eq h hwindow).1
  rw [hkept] at hteardown
  have hdown : ∀ t : State, t.links.get n = Link.reset →
      t.putLink n { t.links.get n with state := .down } = t := fun t ht => by
    have hsame : ({ t.links.get n with state := .down } : Link) = t.links.get n := by rw [ht]; rfl
    rw [hsame, State.putLink, put_get_self]
  have hlink : (abortsRecorded n (s.links.get n).owed (withdrawn n .slotFault (drainedWindow n) s)).links.get n =
      Link.reset := by
    change (withdrawn n .slotFault (drainedWindow n) s).links.get n = _
    rw [withdrawn_links, Tbl.get_put, if_pos rfl]
  have hraise := State.raise_powerOff (withdrawn n .slotFault (drainedWindow n) s) n (s.links.get n).owed
    .identified (c := .ejected n) rfl
  rw [withdrawn_slots] at hraise
  rw [State.abortEjection, hteardown, State.endEjection, hdown _ hlink, hraise, State.finishSlotTicket_eq]
  · rfl
  · exact slotTicketOnce_of_ended (ticketsEnded_withdrawn n .slotFault (drainedWindow n) s) (h.tickets.slotOnce n)

/-- A completion agrees as the rules say (R99, R101). -/
theorem TagRecord.agrees_iff (r : TagRecord) (status : CplStatus) (data : List Byte) :
    r.agrees status data = true ↔ agreeing r status data := by
  have hsize : ∀ x : Size, sizeBytes x = bytes x := fun x => by cases x <;> rfl
  cases status with
  | ok => cases hop : r.op <;> simp [TagRecord.agrees, agreeing, hop, hsize]
  | _ => simp [TagRecord.agrees, agreeing]

/-! ### A source emptied (R53, R111) -/

/-- A state with the cause set of a source emptied. -/
def emptied (j : Fin 18) (s : State) : State :=
  { s with sources := s.sources.put j { s.sources.get j with causes := 0 } }

theorem withCauses_emptied {i j : Fin 18} (h : i ≠ j) (causes : Byte) (s : State) :
    withCauses i causes (emptied j s) = emptied j (withCauses i causes s) := by
  have hput : ∀ x y : Source, (s.sources.put j x).put i y = (s.sources.put i y).put j x := fun x y =>
    Tbl.ext_get fun k => by
      simp only [Tbl.get_put]
      by_cases hk : k = i
      · rw [if_pos hk, if_neg (hk ▸ h), if_pos hk]
      · simp only [if_neg hk]
  simp only [withCauses, emptied, Tbl.get_put, if_neg h, if_neg (Ne.symm h), hput]

theorem withOutcomes_emptied {j : Fin 18} (h : 16 ≠ j) (ending : Ending) (s : State) :
    withOutcomes ending (emptied j s) = emptied j (withOutcomes ending s) := by
  rw [withOutcomes_eq, withOutcomes_eq]
  exact withCauses_emptied h _ { s with tickets := s.tickets.each fun _ => Ticket.ended ending }

/-! ### Removal (R53) -/

/-- The link of a slot that is not linked stands at its part reset value (R90, R94, R97). -/
theorem Safe.link_of_unlinked {s : State} (h : Safe s) {n : SlotIx} (hstate : (s.slots.get n).state.linked = false) :
    s.links.get n = Link.reset := by
  have hdown : (s.links.get n).state = .down := by
    have hlink := h.lifecycle.link n
    cases hs : (s.slots.get n).state <;> simp_all [SlotState.goesWith, SlotState.linked]
  have hidle := h.queues.idle n (by rw [hdown]; decide)
  have htimers := h.timers n
  simp only [Link.idle, Bool.and_eq_true, List.isEmpty_iff, List.all_eq_true, List.mem_finRange, true_implies,
    beq_iff_eq] at hidle
  simp only [Slot.timersFit, Bool.and_eq_true, hdown] at htimers
  obtain ⟨hqueue, htags⟩ := hidle
  obtain ⟨⟨-, htraining⟩, -⟩ := htimers
  refine Link.ext hdown hqueue (Tbl.ext_get fun k => ?_) ?_
  · rw [htags k, Link.reset, Tbl.get_fill]
  · cases ht : (s.links.get n).trainingTimer with
    | none => rfl
    | some t => simp [ht] at htraining

/-- The windows and the work of a slot whose module is removed, whatever its state. -/
theorem State.removalTeardown_eq {s : State} (h : Safe s) (n : SlotIx) :
    (if (s.slots.get n).state.linked then (s.quiet.eachWindow (Window.remove n)).teardown n .removal
      else s.quiet.eachWindow (Window.remove n)) = withdrawn n .slotGone (removedWindow n) s := by
  have hteardown := (State.teardown_eq h fun w => withdraws_remove n (h.windows.closingHeld w)).2
  split
  · exact hteardown
  · rename_i hlinked
    have hlink := h.link_of_unlinked (Bool.eq_false_iff.2 hlinked)
    have hnothing : (s.quiet.eachWindow (Window.remove n)).teardown n .removal =
        s.quiet.eachWindow (Window.remove n) := by
      have howed : Link.reset.owed = [] := by decide
      have hput : ∀ t : State, t.links.get n = Link.reset → t.putLink n Link.reset = t := fun t ht => by
        rw [State.putLink, ← ht, put_get_self]
      rw [State.teardown, State.eachWindow_links, State.quiet_links, hlink, howed, List.foldl_nil]
      exact hput _ (by rw [State.eachWindow_links, State.quiet_links, hlink])
    rw [← hnothing, hteardown]

/-- The slot record, the sources and the ticket of a removal on what the teardown leaves. -/
theorem State.removeRecords_eq {s : State} {n : SlotIx} (once : slotTicketOnce s n) :
    (((s.putSlot n Slot.reset).putSource (moduleSource n)
          { (s.putSlot n Slot.reset).sources.get (moduleSource n) with causes := 0 }).raise
        (.removed n)).finishSlotTicket n .overtaken none =
      emptied (moduleSource n) (withOutcomes (slotEnding n .overtaken none)
        (withCauses ⟨8 + n.val, by omega⟩ 0x08 { s with slots := s.slots.put n Slot.reset })) := by
  have hslot : (⟨8 + n.val, by omega⟩ : Fin 18) ≠ moduleSource n := fun e => by
    have := Fin.mk.inj e
    omega
  have hcommand : (16 : Fin 18) ≠ moduleSource n := fun e => by
    have hval : 16 = n.val := congrArg Fin.val e
    have := n.isLt
    omega
  have hemptied : ∀ t : State, t.putSource (moduleSource n) { t.sources.get (moduleSource n) with causes := 0 } =
      emptied (moduleSource n) t := fun t => rfl
  rw [hemptied, State.raise_slot (n := n) rfl, withCauses_emptied hslot, State.finishSlotTicket_eq,
    withOutcomes_emptied hcommand]
  · rfl
  · exact once

theorem moduleRemoved_eq (n : SlotIx) (s : State) :
    moduleRemoved n s =
      emptied (moduleSource n) (withOutcomes (slotEnding n .overtaken none)
        (withCauses ⟨8 + n.val, by omega⟩ 0x08
          { withdrawn n .slotGone (removedWindow n) s with slots := s.slots.put n Slot.reset })) := rfl

@[simp] theorem moduleRemoved_ident (n : SlotIx) (s : State) : (moduleRemoved n s).ident = s.ident := by
  simp only [moduleRemoved, withOutcomes_eq, withCauses, withdrawn]

@[simp] theorem moduleRemoved_identQueue (n : SlotIx) (s : State) :
    (moduleRemoved n s).identQueue = s.identQueue := by
  simp only [moduleRemoved, withOutcomes_eq, withCauses, withdrawn]

/-- What passes on the link before the next byte, as the rules write it (R79 to R81). -/
theorem ReadRecord.beforeByte_eq {r : ReadRecord} (hsent : r.sent ≤ 3) : r.beforeByte = Expected.beforeByte r := by
  unfold ReadRecord.beforeByte Expected.beforeByte
  by_cases hphase : r.phase = .busClear
  · rw [hphase, if_pos rfl]
  · rw [ReadRecord.opening_eq hphase hsent, if_neg hphase]
    generalize hk : r.sent = k at hsent
    cases hp : r.phase with
    | busClear => exact absurd hp hphase
    | header | body => interval_cases k <;> rfl

theorem Safe.serving_of_identifying {s : State} (h : Safe s) {n : SlotIx}
    (hstate : (s.slots.get n).state = .identifying) :
    (∃ r, s.ident = .reading r ∧ r.slot = n ∧ r.sent ≤ 3) ∨ ∃ r micros, s.ident = .retryWait r micros ∧ r.slot = n := by
  have hserving := (h.lifecycle.reading n).1 hstate
  have hsound := h.lifecycle.sound
  cases hident : s.ident with
  | idle | abandoning => simp [hident, IdentCtl.serving] at hserving
  | reading r =>
    rw [hident] at hsound
    exact .inl ⟨r, rfl, by simpa [hident, IdentCtl.serving] using hserving, (ReadRecord.sound_attempt hsound).2⟩
  | retryWait r micros => exact .inr ⟨r, micros, rfl, by simpa [hident, IdentCtl.serving] using hserving⟩

/-- The Identification Controller's part of a removal, as the rules write it (R77, R86). -/
theorem State.removeIdent_eq {s : State} (h : Safe s) (n : SlotIx) (place : LinkPlace) :
    (moduleRemoved n s).removeIdent n (s.slots.get n).state place = removalTaken n place s := by
  unfold State.removeIdent removalTaken
  rw [moduleRemoved_ident, moduleRemoved_identQueue]
  cases hstate : (s.slots.get n).state with
  | queued => rfl
  | identifying =>
    rcases h.serving_of_identifying hstate with ⟨r, hident, hslot, hsent⟩ | ⟨r, micros, hident, hslot⟩
    · simp only [hident, if_pos hslot]
      rw [ReadRecord.beforeByte_eq hsent]
      split
      · rfl
      · exact State.identIdle_eq _
    · simp only [hident, if_pos hslot]
      exact State.identIdle_eq _
  | _ => rfl

/-- A removal on a safe state, as the rules write it. -/
theorem State.removeSlot_eq {s : State} (h : Safe s) (n : SlotIx) (place : LinkPlace) :
    s.quiet.removeSlot n place = removalTaken n place s := by
  have hrecords := State.removeRecords_eq (s := withdrawn n .slotGone (removedWindow n) s)
    (slotTicketOnce_of_ended (ticketsEnded_withdrawn n .slotGone (removedWindow n) s) (h.tickets.slotOnce n))
  rw [withdrawn_slots] at hrecords
  rw [← State.removeIdent_eq h, moduleRemoved_eq, ← hrecords, ← State.removalTeardown_eq h]
  rfl

end Sys2Proof.Machine

/-! ### The obligations -/

namespace Sys2Proof.Teardowns

-- One proof at a time: side by side they take more threads than the check's memory limit allows.
set_option Elab.async false

open Machine Expected

/-- Settles O45: each cause takes the one fault of the slot. -/
theorem slotFaultTearsDown : Obligations.SlotFaultTearsDown := by
  intro s n hsafe hrun
  have hfault := fun cause => State.faultSlot_eq hsafe n cause
  refine ⟨fun micros hstate htimer => ?_, fun hloses => ?_, fun hlink => ⟨?_, fun count hcount => ?_⟩, fun hstate => ?_,
    fun hlink => ⟨?_, fun k status data htag => ?_⟩⟩
  · have hexpiry : s.quiet.powerTimesOut n = s.quiet.faultSlot n .powerTimeout := by
      unfold State.powerTimesOut
      rw [State.quiet_slots, hstate, htimer]
    exact exec_next hrun (hexpiry.trans (hfault .powerTimeout))
  · have hlost :
        (s.putPowerGood n false).quiet.powerGoodFalls n = (s.putPowerGood n false).quiet.faultSlot n .powerLost :=
      if_pos ((Slot.losesPower_iff _).2 hloses)
    have hsafe' : Safe (s.putPowerGood n false) := hsafe.of_records hrun rfl rfl rfl rfl rfl rfl rfl rfl
    exact exec_next hrun (hlost.trans ((State.faultSlot_eq hsafe' n .powerLost).trans rfl))
  · have htimer : (s.links.get n).trainingTimer.isSome = true := by
      have htimers := hsafe.timers n
      simp only [Slot.timersFit, Bool.and_eq_true, hlink, beq_self_eq_true] at htimers
      obtain ⟨⟨-, htraining⟩, -⟩ := htimers
      exact beq_iff_eq.1 htraining
    have hexpiry : s.quiet.trainingTimesOut n = s.quiet.faultSlot n .linkTimeout := if_pos ⟨hlink, htimer⟩
    exact exec_next hrun (hexpiry.trans (hfault .linkTimeout))
  · have hready : s.quiet.takeReady n count.toNat = s.quiet.faultSlot n .linkProtocol :=
      (if_pos hlink).trans (if_neg (by omega))
    exact exec_next hrun (hready.trans (hfault .linkProtocol))
  · have hup : (s.links.get n).state = .up := by
      have hlink := hsafe.lifecycle.link n
      rw [hstate] at hlink
      exact beq_iff_eq.1 hlink
    have hlost : s.quiet.losesLock n = s.quiet.faultSlot n .linkLost := by
      unfold State.losesLock
      rw [State.quiet_links, State.quiet_slots, hup, hstate]
    exact exec_next hrun (hlost.trans (hfault .linkLost))
  · have hunknown : s.quiet.takeUnknown n = s.quiet.faultSlot n .linkProtocol :=
      if_pos ((LinkState.isOpen_iff _).2 hlink)
    exact exec_next hrun (hunknown.trans (hfault .linkProtocol))
  · have htake : s.quiet.takeCompletion n k status data = s.quiet.faultSlot n .linkProtocol := by
      refine (if_pos ((LinkState.isOpen_iff _).2 hlink)).trans ?_
      rcases htag with hfree | ⟨r, hflight, hdisagree⟩
      · rw [State.quiet_links, hfree]
      · rw [State.quiet_links, hflight]
        exact if_neg fun h => hdisagree ((TagRecord.agrees_iff r status data).1 h)
    exact exec_next hrun (htake.trans (hfault .linkProtocol))

/-- Settles O46: the teardown of a removal, and the controller's part. -/
theorem removalEmptiesSlot : Obligations.RemovalEmptiesSlot := by
  intro s n place hsafe hrun hfilter
  have htimers := hsafe.timers n
  simp only [Slot.timersFit, Bool.and_eq_true, Bool.or_eq_true, Option.isNone_iff_eq_none] at htimers
  obtain ⟨⟨⟨⟨-, hfiltered⟩, -⟩, -⟩, -⟩ := htimers
  have hexpiry : s.quiet.removalExpires n place = s.quiet.removeSlot n place :=
    if_pos ⟨Option.isSome_iff_ne_none.2 hfilter, hfiltered.resolve_left hfilter⟩
  exact exec_next hrun (hexpiry.trans (State.removeSlot_eq hsafe n place))

/-- Settles O54: the link of an EJECTING slot is UP or QUIESCING, and its loss aborts the ejection. -/
theorem linkLossForcesEjection : Obligations.LinkLossForcesEjection := by
  intro s n hsafe hrun hstate
  have hlink := hsafe.lifecycle.link n
  simp only [hstate, SlotState.goesWith, Bool.or_eq_true, beq_iff_eq] at hlink
  have hlost : s.quiet.losesLock n = s.quiet.abortEjection n := by
    unfold State.losesLock
    rw [State.quiet_links, State.quiet_slots, hstate]
    rcases hlink with hup | hquiescing
    · rw [hup]
    · rw [hquiescing]
  exact exec_next hrun (hlost.trans (State.abortEjection_eq hsafe hstate))

end Sys2Proof.Teardowns

/-! PROOFS. The end of a request (R99, R100), and the host port reset (R153). -/

namespace Sys2Proof.Machine

-- One proof at a time: side by side they take more threads than the check's memory limit allows.
set_option Elab.async false

open Sys2Proof.Expected

/-! ### The read data on their lanes (R148) -/

theorem place_byte (b : Byte) (a : Nat) : place b.toNat (8 * a) 8 = BitVec.ofNat 32 (b.toNat * 256 ^ a) := by
  have hpow : 256 ^ a = 2 ^ (8 * a) := by rw [Nat.pow_mul]
  apply BitVec.eq_of_toNat_eq
  rw [place, BitVec.ofNat_toNat, BitVec.setWidth_eq, BitVec.toNat_shiftLeft, BitVec.toNat_setWidth, BitVec.toNat_ofNat,
    Nat.shiftLeft_eq, hpow]
  have hlt : b.toNat % 2 ^ 32 = b.toNat := Nat.mod_eq_of_lt (by have := b.isLt; omega)
  rw [hlt]

/-- Bytes from lane `a` up, one after another, added to a word. -/
theorem foldl_place (data : List Byte) (lane start : Nat) (w : Word) :
    ((data.zipIdx start).foldl (fun (w : Word) p => w ||| place p.1.toNat (8 * (lane + p.2)) 8) w) =
      w ||| BitVec.ofNat 32 (data.foldr (fun b v => b.toNat + 256 * v) 0 * 256 ^ (lane + start)) := by
  induction data generalizing start w with
  | nil => simp
  | cons b data ih =>
    generalize hrest : data.foldr (fun b v => b.toNat + 256 * v) 0 = rest at ih
    have hpow : 256 ^ (lane + (start + 1)) = 256 * 256 ^ (lane + start) := by
      rw [← Nat.add_assoc, Nat.pow_succ, Nat.mul_comm]
    have hshift : ∀ x, x * 256 ^ (lane + start) = x <<< (8 * (lane + start)) := fun x => by
      rw [Nat.shiftLeft_eq, Nat.pow_mul]
    have hor : b.toNat + 256 * rest = (256 * rest) ||| b.toNat := by
      rw [Nat.add_comm]
      exact Nat.two_pow_add_eq_or_of_lt (i := 8) b.isLt rest
    have hsum : (b.toNat + 256 * rest) * 256 ^ (lane + start) =
        (rest * 256 ^ (lane + (start + 1))) ||| (b.toNat * 256 ^ (lane + start)) := by
      have hregroup : rest * (256 * 256 ^ (lane + start)) = 256 * rest * 256 ^ (lane + start) := by
        rw [Nat.mul_comm 256 rest, Nat.mul_assoc]
      rw [hor, hpow, hregroup, hshift, hshift, hshift, Nat.shiftLeft_or_distrib]
    rw [List.zipIdx_cons, List.foldl_cons, ih, List.foldr_cons, hrest, hsum, place_byte, BitVec.ofNat_or,
      BitVec.or_assoc, BitVec.or_comm (BitVec.ofNat 32 (b.toNat * _))]

theorem laneWord_eq (addr : Word) (data : List Byte) : laneWord addr data = laneValue addr data := by
  have hlanes := foldl_place data (addr.toNat % 4) 0 0
  rw [Nat.add_zero] at hlanes
  exact hlanes.trans (BitVec.zero_or)

/-! ### One request ended (R99, R100, R103) -/

/-- The tag and the reference of a request that ends. -/
def requestReleased (n : SlotIx) (k : TagIx) (w : WinIx) (tag : LinkTag) (s : State) : State :=
  (released [w] s.quiet).putLink n { s.links.get n with tags := (s.links.get n).tags.put k tag }

theorem State.releaseRef_putLink {s : State} (h : CloseTicketsHeld s) (n : SlotIx) (k : TagIx) (w : WinIx)
    (tag : LinkTag) :
    (s.quiet.putLink n ((s.links.get n).putTag k tag)).releaseRef w = requestReleased n k w tag s := by
  have hclose : ∀ l : Link, CloseTicketsHeld (s.quiet.putLink n l) := fun l => ⟨h.open_of_field, h.field_of_open⟩
  have hput : ∀ (t : State) (l : Link), released [w] (t.putLink n l) = (released [w] t).putLink n l := fun t l => by
    have hended : ∀ ending windows, windowsEnded ending windows (t.putLink n l) =
        (windowsEnded ending windows t).putLink n l := fun ending windows => rfl
    rw [released_eq, hended]
    rfl
  rw [State.releaseRef_eq (hclose _), hput]
  rfl

/-- The end of a request, its tag and reference first. -/
theorem requestEnded_eq (n : SlotIx) (k : TagIx) (r : TagRecord) (tag : LinkTag) (code : RespCode)
    (data : Option Word) (failure : Option PostedCause) (s : State) :
    requestEnded n k r tag code data failure s =
      (let base := requestReleased n k r.window tag s
      match r.hostTag, failure with
      | some t, _ =>
        if r.orphaned then base else responding t code data { base with hostTable := base.hostTable.put t false }
      | none, none => base
      | none, some cause => base.recordPosted n r.window r.addr cause) := by
  have hbase : ∀ (ending : Ending) (windows : Tbl 64 Window),
      silent { withOutcomes ending s with
        windows
        links := s.links.put n { s.links.get n with tags := (s.links.get n).tags.put k tag } } =
      (windowsEnded ending windows s.quiet).putLink n
        { s.links.get n with tags := (s.links.get n).tags.put k tag } := fun ending windows => rfl
  have hreleased : requestReleased n k r.window tag s =
      (windowsEnded (closeEnding s.windows (s.windows.put r.window (releasedWindow 1 (s.windows.get r.window))))
        (s.windows.put r.window (releasedWindow 1 (s.windows.get r.window))) s.quiet).putLink n
        { s.links.get n with tags := (s.links.get n).tags.put k tag } := by
    rw [requestReleased, released_eq, State.quiet_windows, releasedWindows_singleton]
  have hslots : ∀ (ending : Ending) (windows : Tbl 64 Window) (l : Link),
      ((windowsEnded ending windows s.quiet).putLink n l).slots = s.slots := fun ending windows l => rfl
  simp only [requestEnded, State.recordPosted_closed]
  rw [hbase, ← hreleased]
  cases hostTag : r.hostTag with
  | some t => rfl
  | none =>
    cases failure with
    | none => rfl
    | some cause =>
      have hbaseSlots : (requestReleased n k r.window tag s).slots = s.slots := by rw [hreleased, hslots]
      rw [hbaseSlots]

theorem requestReleased_out (n : SlotIx) (k : TagIx) (w : WinIx) (tag : LinkTag) (s : State) :
    (requestReleased n k w tag s).out = Outputs.nothing := by
  simp only [requestReleased, released, withOutcomes_eq, withCauses, State.putLink_out, State.quiet]

theorem State.answer_responding {s : State} (h : s.out = Outputs.nothing) (t : HostTag) (code : RespCode)
    (data : Option Word) :
    s.answer t code data = responding t code data { s with hostTable := s.hostTable.put t false } := by
  rw [responding, ← h]
  rfl

/-- A completion that agrees, as the rules write it (R67, R99, R103). -/
theorem State.finishRequest_eq {s : State} (h : CloseTicketsHeld s) (n : SlotIx) (k : TagIx) (r : TagRecord)
    {status : CplStatus} (data : List Byte) :
    s.quiet.finishRequest n k r status data =
      quiesceTested n (requestEnded n k r .free (if status = .ok then .ok else .moduleError)
        (if status = .ok ∧ r.op = .read then some (laneValue r.addr data) else none)
        (if status = .ok then none else some .moduleError) s) := by
  have hcode : (r.response status data).code = if status = .ok then .ok else .moduleError := by
    cases status <;> cases hop : r.op <;> simp [TagRecord.response, hop]
  have hdata : (r.response status data).data =
      if status = .ok ∧ r.op = .read then some (laneValue r.addr data) else none := by
    cases status <;> cases hop : r.op <;> simp [TagRecord.response, hop, laneWord_eq]
  have hout := requestReleased_out n k r.window .free s
  rw [State.finishRequest, State.quiet_links, State.releaseRef_putLink h, State.testQuiesce_eq_quiesceTested,
    requestEnded_eq]
  refine congrArg (quiesceTested n) ?_
  unfold State.settleRequest
  cases htag : r.hostTag with
  | some t =>
    dsimp only
    rw [hcode, hdata, State.answer_responding hout]
  | none =>
    by_cases hok : status = .ok
    · simp only [if_pos hok]
    · simp only [if_neg hok]

/-- A completion timeout, as the rules write it (R67, R100, R103). -/
theorem State.requestTimesOut_eq {s : State} (h : CloseTicketsHeld s) {n : SlotIx} {k : TagIx} {r : TagRecord}
    (htag : (s.links.get n).tags.get k = .inFlight r) :
    s.quiet.requestTimesOut n k =
      quiesceTested n
        (requestEnded n k r (.stale { r with timer := 4 * r.timer }) .timeout none (some .timeout) s) := by
  change _ = quiesceTested n (requestEnded n k r r.quarantined .timeout none (some .timeout) s)
  have hout := requestReleased_out n k r.window r.quarantined s
  have htake : s.quiet.requestTimesOut n k =
      (((s.quiet.putLink n ((s.links.get n).putTag k r.quarantined)).releaseRef r.window).settleTimeout n r).testQuiesce
        n := by
    unfold State.requestTimesOut
    rw [State.quiet_links, htag]
  rw [htake, State.releaseRef_putLink h, State.testQuiesce_eq_quiesceTested, requestEnded_eq]
  refine congrArg (quiesceTested n) ?_
  unfold State.settleTimeout
  cases r.hostTag with
  | some t =>
    dsimp only
    rw [State.answer_responding hout]
  | none => rfl

/-- A link that has a tag in use is UP (R97). -/
theorem Safe.up_of_tag {s : State} (h : Safe s) {n : SlotIx} {k : TagIx} (htag : (s.links.get n).tags.get k ≠ .free) :
    (s.links.get n).state = .up := by
  by_contra hdown
  have hidle := h.queues.idle n hdown
  simp only [Link.idle, Bool.and_eq_true, List.all_eq_true, List.mem_finRange, true_implies, beq_iff_eq] at hidle
  exact htag (hidle.2 k)

/-! ### Host port reset (R42, R103, R131, R153) -/

theorem LinkTag.orphan_eq (t : LinkTag) : t.orphan = orphanedTag t := by
  cases t with
  | inFlight r =>
    obtain ⟨window, hostTag, orphaned, op, addr, size, timer⟩ := r
    cases hostTag <;> simp [LinkTag.orphan, orphanedTag]
  | _ => rfl

theorem Link.hostReset_eq (l : Link) : l.hostReset = resetLink l := by
  have htags : LinkTag.orphan = orphanedTag := funext LinkTag.orphan_eq
  rw [Link.hostReset, htags]
  rfl

/-- A state with the engines of some slots changed. -/
def eachLink (slots : List SlotIx) (f : Link → Link) (s : State) : State :=
  { s with links := s.links.each fun n l => if n ∈ slots then f l else l }

theorem released_eachLink (l : List WinIx) (slots : List SlotIx) (f : Link → Link) (s : State) :
    released l (eachLink slots f s) = eachLink slots f (released l s) := by
  have hended : ∀ ending windows, windowsEnded ending windows (eachLink slots f s) =
      eachLink slots f (windowsEnded ending windows s) := fun ending windows => rfl
  rw [released_eq, hended]
  rfl

theorem CloseTicketsHeld.eachLink {s : State} (h : CloseTicketsHeld s) (slots : List SlotIx) (f : Link → Link) :
    CloseTicketsHeld (eachLink slots f s) := ⟨h.open_of_field, h.field_of_open⟩

/-- One engine's part of a host port reset. -/
theorem State.hostResetLink_eq {s : State} (h : CloseTicketsHeld s) (n : SlotIx) :
    s.hostResetLink n = released (s.links.get n).removedWindows (eachLink [n] Link.hostReset s) := by
  have hput : s.putLink n (s.links.get n).hostReset = eachLink [n] Link.hostReset s := by
    have hlinks : s.links.put n (s.links.get n).hostReset =
        s.links.each fun m l => if m ∈ [n] then l.hostReset else l := Tbl.ext_get fun m => by
      rw [Tbl.get_put, Tbl.get_each]
      by_cases hm : m = n
      · rw [if_pos hm, if_pos (List.mem_singleton.2 hm), hm]
      · rw [if_neg hm, if_neg (mt List.mem_singleton.1 hm)]
    rw [eachLink, ← hlinks]
    rfl
  rw [State.hostResetLink, hput, State.foldl_releaseRef (h.eachLink [n] Link.hostReset)]

/-- The engines' parts of a host port reset, one after another. -/
theorem State.foldl_hostResetLink {s : State} (h : CloseTicketsHeld s) {slots : List SlotIx} (honce : slots.Nodup) :
    slots.foldl State.hostResetLink s =
      released (slots.flatMap fun n => (s.links.get n).removedWindows) (eachLink slots Link.hostReset s) := by
  induction slots generalizing s with
  | nil =>
    have hlinks : (s.links.each fun n l => if n ∈ ([] : List SlotIx) then l.hostReset else l) = s.links :=
      Tbl.ext_get fun n => by rw [Tbl.get_each, if_neg (List.not_mem_nil)]
    rw [List.foldl_nil, List.flatMap_nil, released_nil, eachLink, hlinks]
  | cons n slots ih =>
    obtain ⟨hnew, hrest⟩ := List.nodup_cons.1 honce
    have hlinks : ∀ m, m ≠ n → (released (s.links.get n).removedWindows (eachLink [n] Link.hostReset s)).links.get m =
        s.links.get m := fun m hm => by
      have hreleased : ∀ l (t : State), (released l t).links = t.links := fun l t => by
        simp only [released, withOutcomes_eq, withCauses]
      rw [hreleased, eachLink, Tbl.get_each, if_neg (mt List.mem_singleton.1 hm)]
    have hwindows : (slots.flatMap fun m =>
        ((released (s.links.get n).removedWindows (eachLink [n] Link.hostReset s)).links.get m).removedWindows) =
        slots.flatMap fun m => (s.links.get m).removedWindows :=
      List.flatMap_congr fun m hm => by rw [hlinks m (ne_of_mem_of_not_mem hm hnew)]
    have heach : eachLink slots Link.hostReset (eachLink [n] Link.hostReset s) =
        eachLink (n :: slots) Link.hostReset s := by
      have hboth : ((s.links.each fun m l => if m ∈ [n] then l.hostReset else l).each
          fun m l => if m ∈ slots then l.hostReset else l) =
          s.links.each fun m l => if m ∈ n :: slots then l.hostReset else l := Tbl.ext_get fun m => by
        rw [Tbl.get_each, Tbl.get_each, Tbl.get_each]
        by_cases hm : m = n
        · rw [if_pos (List.mem_singleton.2 hm), if_neg (hm ▸ hnew), if_pos (List.mem_cons.2 (.inl hm))]
        · rw [if_neg (mt List.mem_singleton.1 hm)]
          simp only [List.mem_cons, hm, false_or]
      rw [eachLink, eachLink, eachLink, ← hboth]
    have hclose := (h.eachLink [n] Link.hostReset).released (s.links.get n).removedWindows
    rw [List.foldl_cons, State.hostResetLink_eq h, ih hclose hrest, hwindows, ← released_eachLink, heach,
      released_released, List.flatMap_cons]

/-- The references a host port reset takes, engine by engine and entry by entry. -/
theorem count_removedWindows (s : State) (w : WinIx) :
    ((List.finRange 8).flatMap fun n => (s.links.get n).removedWindows).count w = removedEntries s w := by
  have hqueue : ∀ q : List Entry, ((q.filter fun e => e.hostTag.isSome).map Entry.window).count w =
      q.countP fun e => e.window == w && e.hostTag.isSome := fun q => by
    rw [List.count, List.countP_map, List.countP_filter]
    rfl
  rw [removedEntries, List.count_flatMap, List.countP_flatMap]
  simp only [Function.comp_def, Link.removedWindows, hqueue]

theorem releasedWindows_removed (s : State) :
    releasedWindows ((List.finRange 8).flatMap fun n => (s.links.get n).removedWindows) s.windows = resetWindows s :=
  Tbl.ext_get fun w => by rw [releasedWindows, resetWindows, Tbl.get_each, Tbl.get_each, count_removedWindows]

/-- What a host port reset does besides the engines' parts. -/
def hostRecordsReset (s : State) : State :=
  { s with hostTable := Tbl.fill false, lines := Tbl.fill 0, engine := s.engine.hostReset }

theorem State.hostPortResets_eq_foldl (s : State) :
    s.hostPortResets =
      (List.finRange 8).foldl (fun t n => quiesceTested n t)
        (hostRecordsReset ((List.finRange 8).foldl State.hostResetLink s)) := by
  have htest : State.testQuiesce = fun t n => quiesceTested n t :=
    funext fun t => funext fun n => t.testQuiesce_eq_quiesceTested n
  rw [← htest]
  rfl

/-- A host port reset before the quiesce test, as a run of operations. -/
theorem hostPortReset_eq (s : State) :
    hostPortReset s =
      hostRecordsReset (released ((List.finRange 8).flatMap fun n => (s.links.get n).removedWindows)
        (eachLink (List.finRange 8) Link.hostReset ({ s with hostReset := true } : State).quiet)) := by
  have hlinks : (s.links.each fun n l => if n ∈ List.finRange 8 then l.hostReset else l) =
      s.links.each fun _ => resetLink := Tbl.ext_get fun n => by
    rw [Tbl.get_each, Tbl.get_each, if_pos (List.mem_finRange n), Link.hostReset_eq]
  have hfields : ∀ (ending : Ending) (windows : Tbl 64 Window),
      silent { withOutcomes ending s with
        hostReset := true
        hostTable := Tbl.fill false
        windows
        links := s.links.each fun n l => if n ∈ List.finRange 8 then l.hostReset else l
        lines := Tbl.fill 0
        engine := { s.engine with state := .idle, results := zeros } } =
      hostRecordsReset (windowsEnded ending windows
        (eachLink (List.finRange 8) Link.hostReset ({ s with hostReset := true } : State).quiet)) :=
    fun ending windows => rfl
  have hwindows : (eachLink (List.finRange 8) Link.hostReset ({ s with hostReset := true } : State).quiet).windows =
      s.windows := rfl
  rw [released_eq, hwindows, releasedWindows_removed, ← hfields, hlinks, hostPortReset]

/-- A host port reset, as the rules write it. -/
theorem State.hostPortResets_eq {s : State} (h : CloseTicketsHeld s) :
    ({ s with hostReset := true } : State).quiet.hostPortResets =
      (List.finRange 8).foldl (fun t n => quiesceTested n t) (hostPortReset s) := by
  have hclose : CloseTicketsHeld ({ s with hostReset := true } : State).quiet := ⟨h.open_of_field, h.field_of_open⟩
  rw [State.hostPortResets_eq_foldl, State.foldl_hostResetLink hclose (List.nodup_finRange 8), hostPortReset_eq]
  rfl

end Sys2Proof.Machine

/-! ### The obligations -/

namespace Sys2Proof.Requests

-- One proof at a time: side by side they take more threads than the check's memory limit allows.
set_option Elab.async false

open Machine Expected

/-- Settles O49: a request in flight is finished, a STALE tag is freed; either shows that the link is UP. -/
theorem completionFinishesRequest : Obligations.CompletionFinishesRequest := by
  intro s n k status data r hsafe hrun
  have hopen : (s.links.get n).tags.get k ≠ .free → (s.links.get n).state.isOpen = true := fun htag => by
    rw [hsafe.up_of_tag htag]
    rfl
  constructor
  · intro htag hagrees
    have htake : s.quiet.takeCompletion n k status data = s.quiet.finishRequest n k r status data := by
      refine (if_pos (hopen (by rw [htag]; exact LinkTag.noConfusion))).trans ?_
      rw [State.quiet_links, htag]
      exact if_pos ((TagRecord.agrees_iff r status data).2 hagrees)
    exact exec_next hrun (htake.trans (State.finishRequest_eq hsafe.tickets.closeTickets n k r data))
  · intro htag
    have htake : s.quiet.takeCompletion n k status data = s.quiet.putLink n ((s.links.get n).putTag k .free) := by
      refine (if_pos (hopen (by rw [htag]; exact LinkTag.noConfusion))).trans ?_
      rw [State.quiet_links, htag]
    exact exec_next hrun htake

/-- Settles O50: the two timers of a tag, by its state. -/
theorem timeoutQuarantinesTag : Obligations.TimeoutQuarantinesTag := by
  intro s n k r hsafe hrun
  refine ⟨fun htag => exec_next hrun (State.requestTimesOut_eq hsafe.tickets.closeTickets htag), fun htag => ?_⟩
  have hends : s.quiet.quarantineEnds n k = s.quiet.putLink n ((s.links.get n).putTag k .free) := by
    unfold State.quarantineEnds
    rw [State.quiet_links, htag]
  exact exec_next hrun hends

/-- Settles O60: the engines' parts, the other records, and the quiesce test of every slot. -/
theorem hostPortResetDiscards : Obligations.HostPortResetDiscards := by
  intro s hrun
  refine ⟨fun hsafe => ?_, exec_next hrun rfl⟩
  have heffect : (s.moveLevel .hostPortReset).quiet.effect .hostPortReset =
      ({ s with hostReset := true } : State).quiet.hostPortResets := rfl
  exact exec_next hrun (heffect.trans (State.hostPortResets_eq hsafe.tickets.closeTickets))

end Sys2Proof.Requests

/-! PROOFS. What every command keeps: the causes that no rule takes, and a transmitter that sends only what its link
state allows; and the sending of a head entry. -/

namespace Sys2Proof.Machine

-- One proof at a time: side by side they take more threads than the check's memory limit allows.
set_option Elab.async false

open Sys2Proof.Expected

/-! ### Steps that lose no cause and send no packet -/

/-- From `s` to `t` no cause is lost but those of the sources in `lost`, and no packet is sent. -/
structure Calm (lost : Fin 18 → Prop) (s t : State) : Prop where
  causes : ∀ i k, ¬lost i → (s.sources.get i).causes.getLsbD k = true → (t.sources.get i).causes.getLsbD k = true
  packets : t.out.packets = s.out.packets

section

variable {lost : Fin 18 → Prop} {s t u : State}

theorem Calm.trans (h : Calm lost s t) (h' : Calm lost t u) : Calm lost s u where
  causes i k hi hk := h'.causes i k hi (h.causes i k hi hk)
  packets := h'.packets.trans h.packets

/-- A change of other records is calm. -/
theorem Calm.of_eq (hsources : t.sources = s.sources) (hpackets : t.out.packets = s.out.packets) : Calm lost s t where
  causes i k _ hk := by rw [hsources]; exact hk
  packets := hpackets

theorem Calm.refl (s : State) : Calm lost s s := .of_eq rfl rfl

/-- A source record replaced by one that holds its causes is calm. -/
theorem Calm.putSource (i : Fin 18) {r : Source}
    (h : ¬lost i → ∀ k, (s.sources.get i).causes.getLsbD k = true → r.causes.getLsbD k = true) :
    Calm lost s (s.putSource i r) where
  causes j k hj hk := by
    rw [State.putSource_sources, Tbl.get_put]
    split
    · rename_i heq
      subst heq
      exact h hj k hk
    · exact hk
  packets := rfl

theorem Calm.addCauses (s : State) (i : Fin 18) (causes : Byte) :
    Calm lost s (s.putSource i ((s.sources.get i).add causes)) :=
  .putSource i fun _ k hk => by
    show ((s.sources.get i).causes ||| causes).getLsbD k = true
    rw [BitVec.getLsbD_or, hk, Bool.true_or]

/-! A calm step goes on: -/

variable (h : Calm lost s t)

include h

theorem Calm.raise (c : Cause) : Calm lost s (t.raise c) := h.trans (.addCauses t c.source c.bit)

theorem Calm.putHostTag (tag : HostTag) (b : Bool) : Calm lost s (t.putHostTag tag b) := h.trans (.of_eq rfl rfl)

theorem Calm.putWindow (w : WinIx) (x : Window) : Calm lost s (t.putWindow w x) := h.trans (.of_eq rfl rfl)

theorem Calm.eachWindow (f : Window → Window) : Calm lost s (t.eachWindow f) :=
  h.trans (.of_eq (t.eachWindow_sources f) (congrArg Outputs.packets (t.eachWindow_out f)))

theorem Calm.putSlot (n : SlotIx) (r : Slot) : Calm lost s (t.putSlot n r) := h.trans (.of_eq rfl rfl)

theorem Calm.putLink (n : SlotIx) (l : Link) : Calm lost s (t.putLink n l) := h.trans (.of_eq rfl rfl)

theorem Calm.putLine (l : LineIx) (set : Byte) : Calm lost s (t.putLine l set) := h.trans (.of_eq rfl rfl)

theorem Calm.putTicket (k : Fin 8) (x : Ticket) : Calm lost s (t.putTicket k x) := h.trans (.of_eq rfl rfl)

theorem Calm.putEngine (e : Engine) : Calm lost s (t.putEngine e) := h.trans (.of_eq rfl rfl)

theorem Calm.putIdent (c : IdentCtl) : Calm lost s (t.putIdent c) := h.trans (.of_eq rfl rfl)

theorem Calm.putIdentQueue (q : List SlotIx) : Calm lost s (t.putIdentQueue q) := h.trans (.of_eq rfl rfl)

theorem Calm.onIdentLink (items : List BusItem) : Calm lost s (t.onIdentLink items) := h.trans (.of_eq rfl rfl)

theorem Calm.answer (tag : HostTag) (code : RespCode) (data : Option Word) : Calm lost s (t.answer tag code data) :=
  h.trans (.of_eq rfl rfl)

/-! ### Tickets, references and posted failures -/

theorem Calm.finishTicket (k : Fin 8) (outcome : TicketOutcome) (detail : Option TicketDetail) :
    Calm lost s (t.finishTicket k outcome detail) := by
  unfold State.finishTicket
  split
  · exact (h.putTicket _ _).raise _
  · exact h

theorem Calm.finishSlotTicket (n : SlotIx) (outcome : TicketOutcome) (detail : Option TicketDetail) :
    Calm lost s (t.finishSlotTicket n outcome detail) := by
  unfold State.finishSlotTicket
  split
  · exact h
  · exact h.finishTicket _ _ _

theorem Calm.drain (w : WinIx) (m : Mapping) (d : Disposition) (ticket : Option Nat) :
    Calm lost s (t.drain w m d ticket) := by
  cases ticket with
  | none => exact h.putWindow _ _
  | some id =>
    rw [(t.drain_eq w m d).2]
    split
    · exact (h.putWindow _ _).finishTicket _ _ _
    · exact h.putWindow _ _

theorem Calm.releaseRef (w : WinIx) : Calm lost s (t.releaseRef w) := by
  unfold State.releaseRef
  cases t.windows.get w with
  | free | staged => exact h
  | opened => exact h.putWindow _ _
  | closing m refs d ticket =>
    show Calm lost s (if refs - 1 = 0 then t.drain w m d ticket else t.putWindow w (.closing m (refs - 1) d ticket))
    split
    · exact h.drain w m d ticket
    · exact h.putWindow _ _

theorem Calm.recordPosted (n : SlotIx) (w : WinIx) (addr : Word) (cause : PostedCause) :
    Calm lost s (t.recordPosted n w addr cause) := by
  unfold State.recordPosted
  split
  · exact (h.putSlot n _).raise _
  · split
    · exact h
    · exact (h.putSlot n _).raise _

/-! ### Teardowns and the end of an ejection -/

theorem Calm.abort (n : SlotIx) (why : Teardown) (o : Owed) : Calm lost s (t.abort n why o) := by
  unfold State.abort
  split
  · split
    · exact h.releaseRef _
    · exact (h.releaseRef _).answer _ _ _
  · split
    · exact (h.releaseRef _).recordPosted n _ _ _
    · exact h.releaseRef _

theorem Calm.abortAll (n : SlotIx) (why : Teardown) (l : List Owed) : Calm lost s (l.foldl (State.abort n why) t) := by
  induction l generalizing t with
  | nil => exact h
  | cons o l ih => exact ih (h.abort n why o)

theorem Calm.teardown (n : SlotIx) (why : Teardown) : Calm lost s (t.teardown n why) :=
  (h.abortAll n why _).putLink n _

theorem Calm.faultSlot (n : SlotIx) (cause : FaultCause) : Calm lost s (t.faultSlot n cause) :=
  ((((h.eachWindow _).teardown n .fault).putSlot n _).raise _).finishSlotTicket n _ _

theorem Calm.endEjection (n : SlotIx) (outcome : TicketOutcome) : Calm lost s (t.endEjection n outcome) :=
  (((h.putLink n _).putSlot n _).raise _).finishSlotTicket n _ _

theorem Calm.abortEjection (n : SlotIx) : Calm lost s (t.abortEjection n) := (h.teardown n .fault).endEjection n .forced

theorem Calm.admitted (n : SlotIx) (count : Nat) : Calm lost s (t.admitted n count) :=
  (((h.putLink n _).putSlot n _).raise _).finishSlotTicket n _ _

/-! ### Identification -/

theorem Calm.serveIdent : Calm lost s t.serveIdent :=
  h.trans (.of_eq t.serveIdent_sources (congrArg Outputs.packets t.serveIdent_out))

theorem Calm.identIdle : Calm lost s t.identIdle := (h.putIdent .idle).serveIdent

theorem Calm.enqueueIdent (n : SlotIx) : Calm lost s (t.enqueueIdent n) := (h.putIdentQueue _).serveIdent

theorem Calm.readFails (r : ReadRecord) (cause : FaultCause) : Calm lost s (t.readFails r cause) :=
  (((h.putSlot _ _).raise _).finishSlotTicket _ _ _).identIdle

theorem Calm.readSucceeds (r : ReadRecord) (p : Profile) : Calm lost s (t.readSucceeds r p) :=
  (((h.putSlot _ _).raise _).finishSlotTicket _ _ _).identIdle

theorem Calm.attemptFailure (r : ReadRecord) : Calm lost s (t.attemptFailure r) := by
  unfold State.attemptFailure
  split
  · exact h.putIdent _
  · exact h.readFails r _

omit h

theorem Calm.busCleared (s : State) (pulses : Option (Fin 10)) : Calm lost s (s.busCleared pulses) := by
  have h : Calm lost s s := .refl s
  unfold State.busCleared
  split
  · split
    · split
      · exact (h.onIdentLink _).putIdent _
      · exact (h.onIdentLink _).attemptFailure _
    · exact h
  · exact h

theorem Calm.headerRead (s : State) (run : List Transfer) : Calm lost s (s.headerRead run) := by
  have h : Calm lost s s := .refl s
  unfold State.headerRead
  split
  · split
    · dsimp only
      split
      · split
        · exact (h.onIdentLink _).putIdent _
        · exact (h.onIdentLink _).readFails _ _
      · exact (h.onIdentLink _).putIdent _
    · exact h
  · exact h

theorem Calm.bodyRead (s : State) (run : List Transfer) : Calm lost s (s.bodyRead run) := by
  have h : Calm lost s s := .refl s
  unfold State.bodyRead
  split
  · split
    · dsimp only
      split
      · exact (h.onIdentLink _).putIdent _
      · split
        · exact (h.onIdentLink _).readSucceeds _ _
        · exact (h.onIdentLink _).readFails _ _
    · exact h
  · exact h

theorem Calm.missingAcknowledge (s : State) : Calm lost s s.missingAcknowledge := by
  have h : Calm lost s s := .refl s
  unfold State.missingAcknowledge
  split
  · split
    · exact (h.onIdentLink _).attemptFailure _
    · exact (h.onIdentLink _).attemptFailure _
    · exact h
  · exact h

theorem Calm.retry (s : State) : Calm lost s s.retry := by
  unfold State.retry
  split
  · exact (Calm.refl s).putIdent _
  · exact .refl s

theorem Calm.abandonedEnd (s : State) : Calm lost s s.abandonedEnd := by
  unfold State.abandonedEnd
  split
  · exact ((Calm.refl s).onIdentLink _).identIdle
  · exact .refl s

/-! ### Slot events -/

theorem Calm.presenceRises (s : State) (n : SlotIx) : Calm lost s (s.presenceRises n) := by
  rw [s.presenceRises_eq]
  exact (Calm.refl s).putSlot n _

theorem Calm.presenceFalls (s : State) (n : SlotIx) : Calm lost s (s.presenceFalls n) := by
  rw [s.presenceFalls_eq]
  exact (Calm.refl s).putSlot n _

theorem Calm.powerGoodRises (s : State) (n : SlotIx) : Calm lost s (s.powerGoodRises n) := by
  rw [s.powerGoodRises_eq]
  exact (Calm.refl s).putSlot n _

theorem Calm.settled (s : State) (n : SlotIx) : Calm lost s (s.settled n) := by
  unfold State.settled
  split
  · exact ((Calm.refl s).putSlot n _).enqueueIdent n
  · exact .refl s

theorem Calm.powerGoodFalls (s : State) (n : SlotIx) : Calm lost s (s.powerGoodFalls n) := by
  unfold State.powerGoodFalls
  split
  · exact (Calm.refl s).faultSlot n _
  · exact .refl s

theorem Calm.powerTimesOut (s : State) (n : SlotIx) : Calm lost s (s.powerTimesOut n) := by
  unfold State.powerTimesOut
  split
  · exact (Calm.refl s).faultSlot n _
  · exact .refl s

theorem Calm.removeIdent (h : Calm lost s t) (n : SlotIx) (was : SlotState) (place : LinkPlace) :
    Calm lost s (t.removeIdent n was place) := by
  unfold State.removeIdent
  split
  · exact h.putIdentQueue _
  · split
    · split
      · split
        · exact (h.onIdentLink _).putIdent _
        · exact (h.onIdentLink _).identIdle
      · exact h
    · split
      · exact h.identIdle
      · exact h
    · exact h
  · exact h

/-- A source whose loss is allowed may lose all its causes. -/
theorem Calm.clearSource (h : Calm lost s t) {i : Fin 18} (hi : lost i) (r : Source) :
    Calm lost s (t.putSource i r) :=
  h.trans (.putSource i fun hnot => absurd hi hnot)

/-- A removal loses the causes of the slot's module alone (R111). -/
theorem Calm.removeSlot (s : State) (n : SlotIx) (place : LinkPlace) :
    Calm (· = moduleSource n) s (s.removeSlot n place) := by
  have hwindows : Calm (· = moduleSource n) s (s.eachWindow (Window.remove n)) := (Calm.refl s).eachWindow _
  have hteardown : Calm (· = moduleSource n) s
      (if (s.slots.get n).state.linked then (s.eachWindow (Window.remove n)).teardown n .removal
      else s.eachWindow (Window.remove n)) := by
    split
    · exact hwindows.teardown n .removal
    · exact hwindows
  exact ((((hteardown.putSlot n _).clearSource rfl _).raise _).finishSlotTicket n _ _).removeIdent n _ place

theorem Calm.removalExpires (s : State) (n : SlotIx) (place : LinkPlace) :
    Calm (· = moduleSource n) s (s.removalExpires n place) := by
  unfold State.removalExpires
  split
  · exact .removeSlot s n place
  · exact .refl s

/-! ### Link events -/

theorem Calm.trainingTimesOut (s : State) (n : SlotIx) : Calm lost s (s.trainingTimesOut n) := by
  unfold State.trainingTimesOut
  split
  · exact (Calm.refl s).faultSlot n _
  · exact .refl s

theorem Calm.takeReady (s : State) (n : SlotIx) (count : Nat) : Calm lost s (s.takeReady n count) := by
  unfold State.takeReady
  split
  · split
    · exact (Calm.refl s).admitted n count
    · exact (Calm.refl s).faultSlot n _
  · exact .refl s

theorem Calm.quarantineEnds (s : State) (n : SlotIx) (k : TagIx) : Calm lost s (s.quarantineEnds n k) := by
  unfold State.quarantineEnds
  split
  · exact (Calm.refl s).putLink n _
  · exact .refl s

theorem Calm.takeAttention (s : State) (n : SlotIx) (causes : Byte) : Calm lost s (s.takeAttention n causes) := by
  unfold State.takeAttention
  split
  · exact .addCauses s _ _
  · exact .refl s

theorem Calm.takeEjectRequest (s : State) (n : SlotIx) : Calm lost s (s.takeEjectRequest n) := by
  unfold State.takeEjectRequest
  split
  · exact (Calm.refl s).raise _
  · exact .refl s

theorem Calm.takeQuiesced (s : State) (n : SlotIx) : Calm lost s (s.takeQuiesced n) := by
  unfold State.takeQuiesced
  split
  · exact (Calm.refl s).endEjection n _
  · exact .refl s

theorem Calm.quiesceTimesOut (s : State) (n : SlotIx) : Calm lost s (s.quiesceTimesOut n) := by
  unfold State.quiesceTimesOut
  split
  · exact (Calm.refl s).endEjection n _
  · exact .refl s

theorem Calm.takeUnknown (s : State) (n : SlotIx) : Calm lost s (s.takeUnknown n) := by
  unfold State.takeUnknown
  split
  · exact (Calm.refl s).faultSlot n _
  · exact .refl s

theorem Calm.losesLock (s : State) (n : SlotIx) : Calm lost s (s.losesLock n) := by
  unfold State.losesLock
  split
  · exact (Calm.refl s).faultSlot n _
  · exact (Calm.refl s).abortEjection n
  · exact (Calm.refl s).abortEjection n
  · exact .refl s

theorem Calm.settleRequest (h : Calm lost s t) (n : SlotIx) (r : TagRecord) (status : CplStatus) (data : List Byte) :
    Calm lost s (t.settleRequest n r status data) := by
  unfold State.settleRequest
  split
  · split
    · exact h
    · exact h.answer _ _ _
  · split
    · exact h
    · exact h.recordPosted n _ _ _

theorem Calm.settleTimeout (h : Calm lost s t) (n : SlotIx) (r : TagRecord) : Calm lost s (t.settleTimeout n r) := by
  unfold State.settleTimeout
  split
  · split
    · exact h
    · exact h.answer _ _ _
  · exact h.recordPosted n _ _ _

/-! ### Host requests -/

/-- The request is a claimed read of the ACK word of a line that selects source `i` (R115). -/
def acked (s : State) (r : HostRequest) (i : Fin 18) : Prop :=
  s.hostReset = false ∧ s.hostTable.get r.tag = false ∧ r.op = .read ∧ r.size = .four ∧
    ∃ l offset, s.target r.addr = some (.controlBlock offset) ∧ blockWord offset = some (.ack l) ∧ s.selected l = some i

theorem Calm.decodeAccess (h : Calm lost s t) (r : HostRequest) (offset : Nat) :
    Calm lost s (t.decodeAccess r offset) := by
  unfold State.decodeAccess
  split
  · exact h.answer _ _ _
  · split
    · exact h.answer _ _ _
    · split
      · split
        · split
          · unfold State.accept
            dsimp only
            split
            · exact ((h.putWindow _ _).putLink _ _).answer _ _ _
            · exact (h.putWindow _ _).putLink _ _
          · exact h.answer _ _ _
        · exact h.answer _ _ _
      · exact h.answer _ _ _

theorem Calm.takeAck (s : State) (l : LineIx) : Calm (fun i => s.selected l = some i) s (s.takeAck l) := by
  cases hselected : s.selected l with
  | none => rw [(s.takeAck_eq l).1 hselected]; exact .refl s
  | some i =>
    rw [(s.takeAck_eq l).2 i hselected]
    exact (Calm.clearSource (lost := fun j => some i = some j) (.refl s) rfl _).putLine l _

theorem Calm.writeWord {data : Word} {b : BlockWord} (h : s.writeWord data b = some t) : Calm lost s t := by
  cases b with
  | operand k => cases h; exact (Calm.refl s).putEngine _
  | commandCode =>
    cases h
    unfold State.writeCode
    split
    · exact ((Calm.refl s).putEngine _).raise _
    · exact (Calm.refl s).putEngine _
  | eos l =>
    cases h
    unfold State.takeEos
    split
    · exact (Calm.refl s).raise _
    · exact (Calm.refl s).putLine l _
  | _ => exact nomatch h

/-- A read of any other word than ACK leaves every cause. -/
theorem Calm.readWord {b : BlockWord} {v : Word} (h : s.readWord b = some (v, t)) :
    Calm (fun i => ∃ l, b = .ack l ∧ s.selected l = some i) s t := by
  cases b with
  | ack l =>
    cases h
    have hack := Calm.takeAck s l
    exact ⟨fun i k hi => hack.causes i k fun hselected => hi ⟨l, rfl, hselected⟩, hack.packets⟩
  | commandCode => exact nomatch h
  | commandStatus => cases h; exact (Calm.refl s).putEngine _
  | _ => cases h; exact .refl s

theorem Calm.controlAccess (s : State) (r : HostRequest) (offset : Nat) :
    Calm (fun i => r.op = .read ∧ r.size = .four ∧ ∃ l, blockWord offset = some (.ack l) ∧ s.selected l = some i) s
      (s.controlAccess r offset) := by
  unfold State.controlAccess
  split
  · exact (Calm.refl s).answer _ _ _
  · rename_i b hword
    obtain ⟨⟨hsize, -⟩, hblock⟩ := accessedWord_eq_some_iff.1 hword
    split
    · rename_i hop
      split
      · exact (Calm.refl s).answer _ _ _
      · rename_i v t hread
        have hcalm := Calm.readWord hread
        refine Calm.answer ⟨fun i k hi => hcalm.causes i k ?_, hcalm.packets⟩ _ _ _
        rintro ⟨l, rfl, hselected⟩
        exact hi ⟨hop, hsize, l, hblock, hselected⟩
    · split
      · exact (Calm.refl s).answer _ _ _
      · rename_i t hwrite
        exact (Calm.writeWord hwrite).answer _ _ _

/-- A host request loses the causes of the source that a claimed ACK selects, and no other (R111, R115). -/
theorem Calm.hostRequest (s : State) (r : HostRequest) : Calm (acked s r) s (s.hostRequest r) := by
  unfold State.hostRequest
  split
  · exact .refl s
  · rename_i hreset
    split
    · exact .refl s
    · rename_i target htarget
      split
      · exact (Calm.refl s).raise _
      · rename_i hfree
        have hclaimed : Calm (acked s r) s (s.putHostTag r.tag true) := (Calm.refl s).putHostTag _ _
        cases target with
        | aperture offset => exact hclaimed.decodeAccess r offset
        | controlBlock offset =>
          have haccess := Calm.controlAccess (s.putHostTag r.tag true) r offset
          refine hclaimed.trans ⟨fun i k hi => haccess.causes i k ?_, haccess.packets⟩
          rintro ⟨hop, hsize, l, hblock, hselected⟩
          exact hi ⟨Bool.eq_false_iff.2 hreset, Bool.eq_false_iff.2 hfree, hop, hsize, l, offset, htarget, hblock,
            hselected⟩

/-! ### Sending (R91, R98) -/

/-- What a transmitter may send in a step by the state its link is left in (R90, R91). -/
def packetFits (packet : Option Packet) : LinkState → Prop
  | .down => packet = none
  | .training => packet = none ∨ packet = some .training
  | .up => packet = none ∨ (∃ k addr size, packet = some (.read k addr size)) ∨
      ∃ k addr size data, packet = some (.write k addr size data)
  | .quiescing => packet = none ∨ packet = some .quiesce

/-- Every transmitter has sent what its link state allows. -/
def packetsFit (s : State) : Prop := ∀ n, packetFits (s.out.packets.get n) (s.links.get n).state

theorem packetFits_none (x : LinkState) : packetFits none x := by
  cases x with
  | down => rfl
  | training | up | quiescing => exact .inl rfl

theorem packetsFit_of_silent (h : ∀ n, s.out.packets.get n = none) : packetsFit s := fun n => by
  rw [h n]
  exact packetFits_none _

/-- A packet that fits the state its link takes. -/
theorem packetsFit_send (hfit : packetsFit s) {n : SlotIx} {l : Link} {p : Packet} (h : packetFits (some p) l.state)
    (hlinks : t.links = s.links.put n l) (hpackets : t.out.packets = s.out.packets.put n (some p)) : packetsFit t := by
  intro j
  rw [hlinks, hpackets, Tbl.get_put, Tbl.get_put]
  split
  · exact h
  · exact hfit j

/-- From `s` to `t` no cause is lost but those of the sources in `lost`, and where nothing was sent before, every
transmitter has sent what its link state allows. -/
structure Orderly (lost : Fin 18 → Prop) (s t : State) : Prop where
  causes : ∀ i k, ¬lost i → (s.sources.get i).causes.getLsbD k = true → (t.sources.get i).causes.getLsbD k = true
  fits : (∀ n, s.out.packets.get n = none) → packetsFit t

theorem Calm.orderly (h : Calm lost s t) : Orderly lost s t where
  causes := h.causes
  fits hsilent := packetsFit_of_silent fun n => by rw [h.packets]; exact hsilent n

theorem Orderly.testQuiesce (h : Orderly lost s t) (n : SlotIx) : Orderly lost s (t.testQuiesce n) where
  causes i k hi hk := by
    rw [State.testQuiesce_sources]
    exact h.causes i k hi hk
  fits hsilent := by
    cases hholds : t.quiesceHolds n with
    | false =>
      rw [(t.testQuiesce_eq n).2 hholds]
      exact h.fits hsilent
    | true =>
      rw [(t.testQuiesce_eq n).1 hholds]
      refine packetsFit_send (h.fits hsilent) (n := n) (p := .quiesce) ?_ rfl rfl
      exact Or.inr rfl

theorem Orderly.testAll (h : Orderly lost s t) (l : List SlotIx) :
    Orderly lost s (l.foldl State.testQuiesce t) := by
  induction l generalizing t with
  | nil => exact h
  | cons n l ih => exact ih (h.testQuiesce n)

/-- The completion of a command raises CMD_DONE and sends nothing. -/
theorem Orderly.complete (h : Orderly lost s t) (code : ResultCode) (results : Tbl 4 Word) :
    Orderly lost s (t.complete code results) where
  causes i k hi hk := (((Calm.refl t).putEngine _).raise _).causes i k hi (h.causes i k hi hk)
  fits hsilent := h.fits hsilent

/-- The tag the head entry may be sent under (R97, R98). -/
theorem State.sendTag_eq_some_iff (s : State) (n : SlotIx) (k : TagIx) :
    s.sendTag n = some k ↔
      ∃ usable, (s.slots.get n).usableTags = some usable ∧
        ((s.links.get n).state = .up ∧ (s.links.get n).tagsInUse < usable) ∧ (s.links.get n).freeTag = some k := by
  unfold State.sendTag
  cases (s.slots.get n).usableTags with
  | none => simp
  | some usable => simp

theorem Entry.packet_fits (e : Entry) (k : TagIx) : packetFits (some (e.packet k)) .up := by
  unfold Entry.packet
  cases e.op with
  | read => exact .inr (.inl ⟨_, _, _, rfl⟩)
  | write => exact .inr (.inr ⟨_, _, _, _, rfl⟩)

theorem Orderly.sendHead (s : State) (n : SlotIx) : Orderly lost s (s.sendHead n) := by
  unfold State.sendHead
  split
  · rename_i e rest k hqueue htag
    obtain ⟨-, -, ⟨hup, -⟩, -⟩ := (s.sendTag_eq_some_iff n k).1 htag
    refine ⟨fun _ _ _ hk => hk, fun hsilent => ?_⟩
    refine packetsFit_send (packetsFit_of_silent hsilent) (n := n) (p := e.packet k) ?_ rfl rfl
    show packetFits _ (s.links.get n).state
    rw [hup]
    exact e.packet_fits k
  · exact (Calm.refl s).orderly

/-- The end of the qualification sends the first training sequence (R94). -/
theorem Orderly.qualified (s : State) (n : SlotIx) : Orderly lost s (s.qualified n) := by
  unfold State.qualified
  split
  · refine ⟨fun _ _ _ hk => hk, fun hsilent => ?_⟩
    refine packetsFit_send (packetsFit_of_silent hsilent) (n := n) (p := .training) ?_ rfl rfl
    exact Or.inr rfl
  · exact (Calm.refl s).orderly

theorem Orderly.takeCompletion (s : State) (n : SlotIx) (k : TagIx) (status : CplStatus) (data : List Byte) :
    Orderly lost s (s.takeCompletion n k status data) := by
  have h : Calm lost s s := .refl s
  unfold State.takeCompletion
  split
  · split
    · exact (h.faultSlot n _).orderly
    · exact (h.putLink n _).orderly
    · split
      · exact (((h.putLink n _).releaseRef _).settleRequest n _ status data).orderly.testQuiesce n
      · exact (h.faultSlot n _).orderly
  · exact h.orderly

theorem Orderly.requestTimesOut (s : State) (n : SlotIx) (k : TagIx) : Orderly lost s (s.requestTimesOut n k) := by
  unfold State.requestTimesOut
  split
  · exact ((((Calm.refl s).putLink n _).releaseRef _).settleTimeout n _).orderly.testQuiesce n
  · exact (Calm.refl s).orderly

theorem Calm.releaseAll (h : Calm lost s t) (l : List WinIx) : Calm lost s (l.foldl State.releaseRef t) := by
  induction l generalizing t with
  | nil => exact h
  | cons w l ih => exact ih (h.releaseRef w)

theorem Calm.hostResetLinks (h : Calm lost s t) (l : List SlotIx) : Calm lost s (l.foldl State.hostResetLink t) := by
  induction l generalizing t with
  | nil => exact h
  | cons n l ih => exact ih ((h.putLink n _).releaseAll _)

theorem Orderly.hostPortResets (s : State) : Orderly lost s s.hostPortResets := by
  have hlinks : Calm lost s ((List.finRange 8).foldl State.hostResetLink s) := (Calm.refl s).hostResetLinks _
  have hrecords (t : State) : Calm lost t (hostRecordsReset t) := .of_eq rfl rfl
  show Orderly lost s ((List.finRange 8).foldl State.testQuiesce
    (hostRecordsReset ((List.finRange 8).foldl State.hostResetLink s)))
  exact (hlinks.trans (hrecords _)).orderly.testAll _

/-! ### Commands -/

/-- The effect of the completion is orderly; a refusal has none. -/
def Completion.orderly (s : State) (lost : Fin 18 → Prop) : Completion → Prop
  | .refuse _ => True
  | .finish _ _ t => Orderly lost s t

theorem Completion.orderly_finish {code : ResultCode} {results : Tbl 4 Word} (h : Calm lost s t) :
    (Completion.finish code results t).orderly s lost := h.orderly

theorem checked_orderly {α : Type} {operands : Option α} {body : α → Completion} (h : ∀ x, (body x).orderly s lost) :
    (checked operands body).orderly s lost := by
  cases operands with
  | none => trivial
  | some x => exact h x

theorem deferred_orderly {op : TicketOp} {start : Nat → State → State}
    (h : ∀ id t, Calm lost s t → Orderly lost s (start id t)) : (deferred s op start).orderly s lost := by
  unfold deferred
  split
  · trivial
  · exact h _ _ ((Calm.refl s).putTicket _ _)

theorem stageAt_orderly (window : Option WinIx) (m : Mapping) : (stageAt window m s).orderly s lost := by
  unfold stageAt
  split
  · trivial
  · split
    · trivial
    · exact Completion.orderly_finish ((Calm.refl s).putWindow _ _)

theorem stageWindow_orderly (o : StageOperands) : (stageWindow s o).orderly s lost := by
  unfold stageWindow
  split
  · trivial
  · split
    · unfold stageHostDefined
      split
      · trivial
      · exact stageAt_orderly _ _
    · split
      · trivial
      · unfold stageGranted
        split
        · trivial
        · split
          · trivial
          · split
            · trivial
            · split
              · trivial
              · exact stageAt_orderly _ _

theorem openWindow_orderly (w : WinIx) : (openWindow s w).orderly s lost := by
  unfold openWindow
  split
  · split
    · exact Completion.orderly_finish ((Calm.refl s).putWindow _ _)
    · trivial
  · trivial

theorem Calm.startClose (h : Calm lost s t) (w : WinIx) (m : Mapping) (refs id : Nat) :
    Calm lost s (t.startClose w m refs id) := by
  unfold State.startClose
  split
  · exact (h.putWindow w _).drain w m _ _
  · exact h.putWindow w _

theorem closeWindow_orderly (w : WinIx) : (closeWindow s w).orderly s lost := by
  unfold closeWindow
  split
  · trivial
  · split
    · exact deferred_orderly fun _ _ h => (h.startClose w _ _ _).orderly
    · trivial

theorem releaseWindow_orderly (w : WinIx) : (releaseWindow s w).orderly s lost := by
  unfold releaseWindow
  split
  · trivial
  · exact Completion.orderly_finish ((Calm.refl s).putWindow _ _)
  · trivial
  · exact Completion.orderly_finish ((Calm.refl s).putWindow _ _)

theorem readProfile_orderly (a : SlotIx × Fin 7) : (readProfile s a).orderly s lost := by
  unfold readProfile
  split
  · trivial
  · split
    · exact Completion.orderly_finish (.refl s)
    · dsimp only
      split
      · trivial
      · exact Completion.orderly_finish (.refl s)

theorem admitSlot_orderly (n : SlotIx) : (admitSlot s n).orderly s lost := by
  unfold admitSlot
  split
  · trivial
  · split
    · trivial
    · split
      · trivial
      · exact deferred_orderly fun _ _ h => (h.putSlot n _).orderly

theorem ejectSlot_orderly (n : SlotIx) : (ejectSlot s n).orderly s lost := by
  unfold ejectSlot
  split
  · trivial
  · split
    · trivial
    · exact deferred_orderly fun _ _ h => ((h.putSlot n _).eachWindow _).orderly.testQuiesce n

theorem recoverSlot_orderly (n : SlotIx) : (recoverSlot s n).orderly s lost := by
  unfold recoverSlot
  split
  · trivial
  · split
    · exact deferred_orderly fun _ _ h => (((h.eachWindow _).putSlot n _).enqueueIdent n).orderly
    · trivial

theorem readTicket_orderly (id : Nat) : (readTicket s id).orderly s lost := by
  unfold readTicket
  split
  · trivial
  · split
    · trivial
    · exact Completion.orderly_finish (.refl s)

theorem collectTicket_orderly (id : Nat) : (collectTicket s id).orderly s lost := by
  unfold collectTicket
  split
  · trivial
  · split
    · exact Completion.orderly_finish ((Calm.refl s).putTicket _ _)
    · trivial

theorem configurePart_orderly (config : PartConfig) : (configurePart s config).orderly s lost := by
  unfold configurePart
  split
  · trivial
  · exact Completion.orderly_finish (.of_eq rfl rfl)

/-- Every command loses no cause and sends what the link states allow. -/
theorem commandBody_orderly (c : Command) (o : Tbl 4 Word) (s : State) : (commandBody c o s).orderly s lost := by
  cases c with
  | nop | partConfigRead => exact Completion.orderly_finish (.refl s)
  | winRead | winLookup | slotRead | srcRead =>
    exact checked_orderly fun _ => Completion.orderly_finish (.refl s)
  | slotClearPosted => exact checked_orderly fun n => Completion.orderly_finish ((Calm.refl s).putSlot n _)
  | srcRoute => exact checked_orderly fun _ => Completion.orderly_finish (.putSource _ fun _ _ hk => hk)
  | winStage => exact checked_orderly stageWindow_orderly
  | winOpen => exact checked_orderly openWindow_orderly
  | winClose => exact checked_orderly closeWindow_orderly
  | winRelease => exact checked_orderly releaseWindow_orderly
  | profileRead => exact checked_orderly readProfile_orderly
  | slotAdmit => exact checked_orderly admitSlot_orderly
  | slotEject => exact checked_orderly ejectSlot_orderly
  | slotRecover => exact checked_orderly recoverSlot_orderly
  | ticketRead => exact checked_orderly readTicket_orderly
  | ticketCollect => exact checked_orderly collectTicket_orderly
  | partConfig => exact checked_orderly configurePart_orderly

theorem Orderly.runCommand (c : Command) (s : State) : Orderly lost s (runCommand c (commandBody c) s) := by
  unfold Machine.runCommand
  split
  · have hbody := commandBody_orderly (lost := lost) c s.engine.takenOperands s
    cases hcase : commandBody c s.engine.takenOperands s with
    | refuse code => exact (Calm.refl s).orderly.complete code _
    | finish code results t =>
      rw [hcase] at hbody
      exact Orderly.complete hbody code results
  · exact (Calm.refl s).orderly

theorem Orderly.completeUndefined (s : State) : Orderly lost s s.completeUndefined := by
  unfold State.completeUndefined
  split
  · exact (Calm.refl s).orderly.complete _ _
  · exact (Calm.refl s).orderly

end

/-! ### Every command -/

/-- The request of a row of the Host Port. -/
def State.requestRow (s : State) : Instr → Option HostRequest
  | .apertureAccess tag op addr size data => some { tag, op, addr, size, data }
  | .controlBlockWrite tag addr size data => some { tag, op := .write, addr, size, data }
  | .commandStatusRead tag addr size => some { tag, op := .read, addr, size, data := 0 }
  | .ack tag line => some (s.readRequest tag (ackOffset line))
  | .eos tag line value => some (s.writeRequest tag (eosOffset line) value)
  | .cmdOverrun tag code => some (s.writeRequest tag codeOffset code)
  | .commandIssue tag code => some (s.writeRequest tag codeOffset code)
  | _ => none

/-- A command may take the causes of source `i`: an ACK that selects it, or the removal of its module (R111). -/
def takesCauses (s : State) (c : Instr) (i : Fin 18) : Prop :=
  (∃ r, s.requestRow c = some r ∧ acked s r i) ∨ ∃ n place, c = .removalFilterExpiry n place ∧ i = moduleSource n

theorem effect_orderly (s : State) (c : Instr) : Orderly (takesCauses s c) s (s.effect c) := by
  have hrequest (r : HostRequest) (hrow : s.requestRow c = some r) :
      Orderly (takesCauses s c) s (s.hostRequest r) := by
    have hcalm := Calm.hostRequest s r
    exact ⟨fun i k hi => hcalm.causes i k fun hacked => hi (.inl ⟨r, hrow, hacked⟩), hcalm.orderly.fits⟩
  cases c with
  | apertureAccess | controlBlockWrite | commandStatusRead | ack | eos | cmdOverrun | commandIssue =>
    exact hrequest _ rfl
  | nop | winStage | winOpen | winClose | winRelease | winRead | winLookup | slotRead | profileRead | slotAdmit
  | slotEject | slotRecover | slotClearPosted | srcRoute | srcRead | ticketRead | ticketCollect | partConfig
  | partConfigRead => exact .runCommand _ s
  | badCommand => exact .completeUndefined s
  | partReset | partResetEnd | hostPortResetRelease | packetCheckFailure => exact (Calm.refl s).orderly
  | hostPortReset => exact .hostPortResets s
  | presenceAsserted n => exact (Calm.presenceRises s n).orderly
  | presenceDeasserted n => exact (Calm.presenceFalls s n).orderly
  | settleTimerExpiry n => exact (Calm.settled s n).orderly
  | removalFilterExpiry n place =>
    have hcalm := Calm.removalExpires s n place
    exact ⟨fun i k hi => hcalm.causes i k fun hmodule => hi (.inr ⟨n, place, rfl, hmodule⟩), hcalm.orderly.fits⟩
  | powerGoodAsserted n => exact (Calm.powerGoodRises s n).orderly
  | powerGoodLoss n => exact (Calm.powerGoodFalls s n).orderly
  | qualificationExpiry n => exact .qualified s n
  | powerTimerExpiry n => exact (Calm.powerTimesOut s n).orderly
  | trainingTimerExpiry n => exact (Calm.trainingTimesOut s n).orderly
  | ready n count => exact (Calm.takeReady s n _).orderly
  | sendRequest n => exact .sendHead s n
  | completion n k status data => exact .takeCompletion s n k status data
  | completionTimerExpiry n k => exact .requestTimesOut s n k
  | quarantineTimerExpiry n k => exact (Calm.quarantineEnds s n k).orderly
  | attention n causes => exact (Calm.takeAttention s n causes).orderly
  | ejectRequest n => exact (Calm.takeEjectRequest s n).orderly
  | quiesced n => exact (Calm.takeQuiesced s n).orderly
  | quiesceTimerExpiry n => exact (Calm.quiesceTimesOut s n).orderly
  | unknownPacketKind n => exact (Calm.takeUnknown s n).orderly
  | linkLoss n => exact (Calm.losesLock s n).orderly
  | busClear pulses => exact (Calm.busCleared s pulses).orderly
  | headerTransaction a b c d => exact (Calm.headerRead s (a :: [b, c, d].reduceOption)).orderly
  | bodyTransaction run => exact (Calm.bodyRead s run).orderly
  | attemptFails => exact (Calm.missingAcknowledge s).orderly
  | retryTimerExpiry => exact (Calm.retry s).orderly
  | abandonedByteEnd => exact (Calm.abandonedEnd s).orderly

/-- The outputs cleared hold no packet. -/
theorem State.quiet_silent (s : State) (n : SlotIx) : s.quiet.out.packets.get n = none := Tbl.get_fill none n

/-- After every step each transmitter has sent what its link state allows. -/
theorem packetsFit_of_exec {c : Instr} {s t : State} (h : exec c s = .next t) : packetsFit t := by
  by_cases hc : notReset c
  · cases hrun : s.partReset with
    | true =>
      rw [exec_of_reset hc hrun] at h
      cases h
      exact packetsFit_of_silent (s.moveLevel c).quiet_silent
    | false =>
      rw [exec_of_running hc hrun] at h
      cases h
      exact (effect_orderly _ c).fits (s.moveLevel c).quiet_silent
  · cases c with
    | partReset =>
      cases h
      exact packetsFit_of_silent fun n => Tbl.get_fill none n
    | partResetEnd apsel cbsel =>
      cases h
      apply packetsFit_of_silent
      split
      · exact s.quiet_silent
      · exact s.quiet_silent
    | _ => exact absurd trivial hc

/-- What a transmitter sends, by the state of its link (R91, R94). -/
theorem State.transmits_of_fits {s : State} {n : SlotIx}
    (h : packetFits (s.out.packets.get n) (s.links.get n).state) :
    match (s.links.get n).state with
    | .down => s.transmits n = none
    | .training => s.transmits n = some .training
    | .up => s.transmits n = none ∨ (∃ k addr size, s.transmits n = some (.read k addr size)) ∨
        ∃ k addr size data, s.transmits n = some (.write k addr size data)
    | .quiescing => s.transmits n = none ∨ s.transmits n = some .quiesce := by
  unfold State.transmits
  cases hstate : (s.links.get n).state with
  | down =>
    rw [hstate] at h
    rw [show s.out.packets.get n = none from h]
    rfl
  | training =>
    rw [hstate] at h
    rcases (h : _ ∨ _) with hpacket | hpacket
    · simp [hpacket]
    · simp [hpacket]
  | up =>
    rw [hstate] at h
    rcases (h : _ ∨ _ ∨ _) with hpacket | ⟨k, addr, size, hpacket⟩ | ⟨k, addr, size, data, hpacket⟩
    · rw [hpacket]
      exact .inl rfl
    · rw [hpacket]
      exact .inr (.inl ⟨k, addr, size, rfl⟩)
    · rw [hpacket]
      exact .inr (.inr ⟨k, addr, size, data, rfl⟩)
  | quiescing =>
    rw [hstate] at h
    rcases (h : _ ∨ _) with hpacket | hpacket
    · rw [hpacket]
      exact .inl rfl
    · rw [hpacket]
      exact .inr rfl

theorem Link.tagsInUse_eq (l : Link) :
    l.tagsInUse = (List.finRange 8).countP fun j => l.tags.get j != .free :=
  List.countP_eq_length_filter.symm

theorem completionMicros_eq (x : CompletionTimeout) : Config.completionMicros x = completionDuration x := by
  cases x <;> rfl

/-! ### What a claimed ACK is -/

/-- The search of ACK finds the source of the highest priority, and among several the lowest number. -/
theorem State.selected_of_eq_some {s : State} {l : LineIx} {i : Fin 18} (h : s.selected l = some i) :
    Expected.selected s l i := by
  obtain ⟨⟨heligible, htop⟩, hlowest⟩ := State.selected_eq_some.1 h
  simp only [State.topPriority, List.all_eq_true, List.mem_finRange, true_implies, Bool.or_eq_true,
    Bool.not_eq_true', decide_eq_true_eq] at htop
  have hle {j : Fin 18} (hj : s.eligible l j = true) : (s.sources.get j).priority ≤ (s.sources.get i).priority :=
    (htop j).resolve_left fun hnot => Bool.noConfusion (hj.symm.trans hnot)
  refine ⟨(s.eligible_iff l i).1 heligible, fun j hj => ?_⟩
  have hj := (s.eligible_iff l j).2 hj
  rcases lt_or_eq_of_le (hle hj) with hlt | heq
  · exact .inl hlt
  · refine .inr ⟨heq, not_lt.1 fun hlt => ?_⟩
    have hjtop : s.topPriority l j = true := by
      simp only [State.topPriority, List.all_eq_true, List.mem_finRange, true_implies, Bool.or_eq_true,
        Bool.not_eq_true', decide_eq_true_eq]
      intro k
      rw [heq]
      exact htop k
    have hfalse := hlowest j hlt
    rw [hj, hjtop] at hfalse
    exact Bool.noConfusion hfalse

theorem State.inControlBlock_of_target {s : State} {addr : Word} {offset : Nat}
    (h : s.target addr = some (.controlBlock offset)) : inControlBlock s addr offset := by
  unfold State.target at h
  split at h
  · exact nomatch h
  · split at h
    · rename_i hin
      cases h
      have hbase : Expected.controlBase s = s.controlBase := rfl
      exact ⟨by omega, by omega⟩
    · exact nomatch h

theorem offset_of_ackWord {offset : Nat} {l : LineIx} (h : blockWord offset = some (.ack l)) :
    offset = 0x40 + 4 * l.val := by
  unfold blockWord at h
  split at h <;> cases h <;> rfl

/-- An address in an aperture range lies in no control block. -/
theorem not_inControlBlock_of_aperture {s : State} {addr : Word} {offset : Nat} (h : inSomeAperture addr = true) :
    ¬inControlBlock s addr offset := by
  rintro ⟨haddr, -⟩
  have hrange : 0x40000000 ≤ addr.toNat ∧ addr.toNat ≤ 0xBFFFFFFF := of_decide_eq_true h
  have hbase : 0xF0000000 ≤ Expected.controlBase s := Nat.le_add_right _ _
  omega

/-- A row whose request is a claimed ACK reads the ACK word of the line (R115). -/
theorem readsAck_of_acked {s : State} {c : Instr} {r : HostRequest} {i : Fin 18} (hwell : c.wellFormed = true)
    (hrun : s.partReset = false) (hrow : s.requestRow c = some r) (hacked : acked s r i) :
    ∃ tag l, readsAck s tag l c ∧ claiming s tag ∧ Expected.selected s l i := by
  obtain ⟨hreset, hfree, hop, hsize, l, offset, htarget, hblock, hselected⟩ := hacked
  have hin := State.inControlBlock_of_target htarget
  have hoffset := offset_of_ackWord hblock
  refine ⟨r.tag, l, ?_, ⟨hrun, hreset, hfree⟩, State.selected_of_eq_some hselected⟩
  cases c with
  | apertureAccess tag op addr size data =>
    cases hrow
    exact absurd hin (not_inControlBlock_of_aperture hwell)
  | controlBlockWrite | eos | cmdOverrun | commandIssue =>
    cases hrow
    exact nomatch hop
  | commandStatusRead tag addr size =>
    cases hrow
    exact ⟨rfl, hsize, hoffset ▸ hin⟩
  | ack tag line =>
    cases hrow
    have hline : ackOffset line ≤ 0xFF := by unfold ackOffset; omega
    have haddr := (s.blockAddress_toNat hline).symm.trans hin.1
    have hbase : Expected.controlBase s = s.controlBase := rfl
    refine ⟨rfl, Fin.ext ?_⟩
    unfold ackOffset at haddr
    omega
  | _ => exact nomatch hrow

end Sys2Proof.Machine

/-! ### The obligations -/

namespace Sys2Proof.Always

-- One proof at a time: side by side they take more threads than the check's memory limit allows.
set_option Elab.async false

open Sys2Proof.Machine Sys2Proof.Expected

/-- Settles O48: the head entry's tag found by the search of R98, and what every transmitter sends after a step. -/
theorem sendTakesHeadEntry : Obligations.SendTakesHeadEntry := by
  refine ⟨fun s n hrun => ?_, fun s t c n hexec => State.transmits_of_fits (packetsFit_of_exec hexec n)⟩
  have htag := s.quiet.sendTag_eq_some_iff n
  refine ⟨fun e rest usable k hup hqueue husable hroom hfree hlowest => ?_, fun hnot => ?_⟩
  · have hk : s.quiet.sendTag n = some k :=
      (htag k).2 ⟨usable, husable, ⟨hup, by rw [Link.tagsInUse_eq]; exact hroom⟩,
        Link.freeTag_eq_some.2 ⟨hfree, hlowest⟩⟩
    have hqueue : (s.quiet.links.get n).queue = e :: rest := hqueue
    refine exec_next hrun ?_
    show s.quiet.sendHead n = _
    rw [State.sendHead, hqueue, hk, ← completionMicros_eq]
    rfl
  · refine exec_next hrun ?_
    show s.quiet.sendHead n = _
    unfold State.sendHead
    split
    · rename_i e rest k hqueue hk
      obtain ⟨usable, husable, ⟨hup, hroom⟩, -⟩ := (htag k).1 hk
      rw [Link.tagsInUse_eq] at hroom
      rcases hnot with hdown | hempty | hfull
      · exact absurd hup hdown
      · exact nomatch hempty.symm.trans hqueue
      · exact absurd hroom (not_lt.2 (hfull usable husable))
    · rfl

/-- Settles O21: every effect keeps the causes but a claimed ACK and a removal. -/
theorem causesStayUntilTaken : Obligations.CausesStayUntilTaken := by
  intro s t c i k hwell hexec hcause
  by_cases hc : notReset c
  · cases hrun : s.partReset with
    | true =>
      rw [exec_of_reset hc hrun] at hexec
      cases hexec
      rw [State.moveLevel_eq]
      exact .inl hcause
    | false =>
      rw [exec_of_running hc hrun] at hexec
      cases hexec
      by_cases htakes : takesCauses (s.moveLevel c).quiet c i
      · rcases htakes with ⟨r, hrow, hacked⟩ | ⟨n, place, rfl, rfl⟩
        · have hsame : s.moveLevel c = s := by
            cases c with
            | hostPortReset | hostPortResetRelease | presenceAsserted | presenceDeasserted | powerGoodAsserted
            | powerGoodLoss => exact nomatch hrow
            | _ => rfl
          rw [hsame] at hrow hacked
          exact .inr (.inr (.inr (readsAck_of_acked (s := s.quiet) hwell hrun hrow hacked)))
        · exact .inr (.inr (.inl ⟨n, place, rfl, rfl⟩))
      · refine .inl ((effect_orderly _ c).causes i k htakes ?_)
        rw [State.moveLevel_eq]
        exact hcause
  · cases c with
    | partReset => exact .inr (.inl rfl)
    | partResetEnd apsel cbsel =>
      cases hexec
      left
      split
      · exact hcause
      · exact hcause
    | _ => exact absurd trivial hc

end Sys2Proof.Always

/-! PROOFS. The invariant `Safe` taken apart: what each slot keeps with its engine, what the tickets keep, and how the
parts are put together again after a step. -/

namespace Sys2Proof.Machine

-- One proof at a time: side by side they take more threads than the check's memory limit allows.
set_option Elab.async false

open Sys2Proof.Expected

/-! ### One slot with its engine -/

/-- A slot's power fits its state (R50, R55). -/
structure PowerFits (r : Slot) : Prop where
  profile : r.state.profileFits r.profile.isSome = true
  main : r.mainPower = r.state.powered
  units : r.committedUnits = if r.state.powered then r.powerUnits else 0

theorem Slot.powerFits_iff (r : Slot) : r.powerFits = true ↔ PowerFits r := by
  simp only [Slot.powerFits, Bool.and_eq_true, beq_iff_eq]
  exact ⟨fun ⟨⟨hprofile, hmain⟩, hunits⟩ => ⟨hprofile, hmain, hunits⟩,
    fun ⟨hprofile, hmain, hunits⟩ => ⟨⟨hprofile, hmain⟩, hunits⟩⟩

/-- A slot's timers and usable tags fit its state and that of its link (R50, R51, R52, R58, R68, R94). -/
structure TimersFit (r : Slot) (l : Link) : Prop where
  settle : r.settleTimer.isSome = true ↔ r.state = .settling
  power : r.powerTimer.isSome = true ↔ r.state = .powering
  filter : r.removalFilter.isSome = true → r.state.filtered = true
  quiesce : r.quiesceTimer.isSome = true ↔ l.state = .quiescing
  training : l.trainingTimer.isSome = true ↔ l.state = .training
  tagsHeld : r.usableTags.isSome = true ↔ r.state = .active ∨ r.state = .ejecting
  tagsRange : ∀ u, r.usableTags = some u → 1 ≤ u ∧ u ≤ 8

theorem Slot.timersFit_iff (r : Slot) (l : Link) : r.timersFit l = true ↔ TimersFit r l := by
  have hsame (a b : Bool) : (a == b) = true ↔ (a = true ↔ b = true) := by
    rw [beq_iff_eq, Bool.eq_iff_iff]
  have hfilter : (r.removalFilter.isNone || r.state.filtered) = true ↔
      (r.removalFilter.isSome = true → r.state.filtered = true) := by
    cases r.removalFilter <;> simp
  simp only [Slot.timersFit, Bool.and_eq_true, hsame, hfilter, beq_iff_eq]
  constructor
  · rintro ⟨⟨⟨⟨⟨hsettle, hpower⟩, hremoval⟩, hquiesce⟩, htraining⟩, htags⟩
    cases husable : r.usableTags with
    | none =>
      simp only [husable, Bool.not_eq_true', Bool.or_eq_false_iff, beq_eq_false_iff_ne] at htags
      refine ⟨hsettle, hpower, hremoval, hquiesce, htraining, ?_, by simp [husable]⟩
      simp [husable, htags.1, htags.2]
    | some u =>
      simp only [husable, Bool.and_eq_true, Bool.or_eq_true, beq_iff_eq, decide_eq_true_eq] at htags
      refine ⟨hsettle, hpower, hremoval, hquiesce, htraining, ?_, ?_⟩
      · simp [husable, htags.1]
      · rintro v hv
        obtain rfl : u = v := by simpa [husable] using hv
        exact htags.2
  · rintro ⟨hsettle, hpower, hremoval, hquiesce, htraining, hheld, hrange⟩
    refine ⟨⟨⟨⟨⟨hsettle, hpower⟩, hremoval⟩, hquiesce⟩, htraining⟩, ?_⟩
    cases husable : r.usableTags with
    | none => simpa [husable] using hheld
    | some u =>
      have hstate : r.state = .active ∨ r.state = .ejecting := by simpa [husable] using hheld
      have hu := hrange u husable
      simp [hstate, hu]

/-- A slot record and its engine agree (R38, R50, R55, R87, R90, R97). -/
structure SlotFits (r : Slot) (l : Link) : Prop where
  link : r.state.goesWith l.state = true
  power : PowerFits r
  timers : TimersFit r l
  profile : ∀ p, r.profile = some p → p.inRange = true
  capacity : l.queue.length ≤ Config.queueCapacity
  tags : l.tagsInUse ≤ r.usableTags.getD 0
  idle : l.state ≠ .up → l.idle = true

/-- The Identification Queue and the slot being read agree with the slots (R75), whether or not an IDLE controller has
taken the head of the queue yet. -/
structure IdentHeld (s : State) : Prop where
  queueOnce : s.identQueue.Nodup
  queueExact : ∀ n, n ∈ s.identQueue ↔ (s.slots.get n).state = .queued
  reading : ∀ n, (s.slots.get n).state = .identifying ↔ s.ident.serving = some n
  sound : s.ident.sound = true

/-! ### The tickets of one slot -/

/-- The operation can be in progress at a slot in this state (3.10). -/
def TicketOp.runsIn (x : SlotState) : TicketOp → Bool
  | .close _ => true
  | .admission _ => x == .powering || x == .linking
  | .ejection _ => x == .ejecting
  | .recovery _ => x == .queued || x == .identifying

/-- The OPEN ticket of a slot and the slot's state agree (R142, R143, 3.10). -/
structure SlotTickets (s : State) (n : SlotIx) : Prop where
  once : slotTicketOnce s n
  progress : ∀ k op, (s.tickets.get k).body = .opened op → op.onSlot n = true →
    op.runsIn (s.slots.get n).state = true
  admission : (s.slots.get n).state = .powering ∨ (s.slots.get n).state = .linking →
    ∃ k, (s.tickets.get k).body = .opened (.admission n)
  ejection : (s.slots.get n).state = .ejecting → ∃ k, (s.tickets.get k).body = .opened (.ejection n)

theorem Ticket.isOpen_iff {op : TicketOp} {t : Ticket} : t.isOpen op = true ↔ t.body = .opened op := beq_iff_eq

theorem TicketsHeld.slotTickets {s : State} (h : TicketsHeld s) (n : SlotIx) : SlotTickets s n where
  once := h.slotOnce n
  progress k op hbody hon := by
    have hprogress := h.progress k op (Ticket.isOpen_iff.2 hbody)
    rcases TicketOp.onSlot_iff.1 hon with rfl | rfl | rfl <;> exact hprogress
  admission hstate := (h.admission n hstate).imp fun _ => Ticket.isOpen_iff.1
  ejection hstate := (h.ejection n hstate).imp fun _ => Ticket.isOpen_iff.1

/-- The tickets agree with the windows and the slots when those of the windows do and those of each slot. -/
theorem TicketsHeld.of_parts {s : State} (hclose : CloseTicketsHeld s) (hslot : ∀ n, SlotTickets s n) :
    TicketsHeld s where
  windowOnce w j k hj hk := by
    obtain ⟨op, hop, hon⟩ := Ticket.openFor_iff.1 hj
    obtain ⟨op', hop', hon'⟩ := Ticket.openFor_iff.1 hk
    obtain rfl := TicketOp.onWindow_iff.1 hon
    obtain rfl := TicketOp.onWindow_iff.1 hon'
    have hid := Option.some.inj ((hclose.field_of_open w j hop).symm.trans (hclose.field_of_open w k hop'))
    rw [← ticketIndex_id (s.tickets.get j) j, hid, ticketIndex_id]
  slotOnce n := (hslot n).once
  progress k op hopen := by
    have hbody := Ticket.isOpen_iff.1 hopen
    cases op with
    | close w => exact beq_iff_eq.2 (hclose.field_of_open w k hbody)
    | admission n => exact (hslot n).progress k _ hbody (beq_self_eq_true n)
    | ejection n => exact (hslot n).progress k _ hbody (beq_self_eq_true n)
    | recovery n => exact (hslot n).progress k _ hbody (beq_self_eq_true n)
  close w id hid := (hclose.open_of_field w id hid).imp_left Ticket.isOpen_iff.2
  admission n hstate := ((hslot n).admission hstate).imp fun _ => Ticket.isOpen_iff.2
  ejection n hstate := ((hslot n).ejection hstate).imp fun _ => Ticket.isOpen_iff.2

/-! ### The windows of a slot -/

/-- The window's state is possible with this record of its slot (R6, R12, R20, R25). -/
def Window.fitsSlot (r : Slot) : Window → Bool
  | .free => true
  | .staged _ => r.profile.isSome
  | .opened _ _ => r.state == .active
  | .closing _ refs _ _ => (r.state == .active || r.state == .ejecting) && decide (1 ≤ refs)

theorem Window.ofSlot_iff {n : SlotIx} {x : Window} : x.ofSlot n = true ↔ ∃ m, x.mapping = some m ∧ m.slot = n := by
  unfold Window.ofSlot
  cases x.mapping with
  | none => simp
  | some m => simp

theorem Window.fits_iff (s : State) (x : Window) :
    x.fits s = true ↔ ∀ n, x.ofSlot n = true → x.fitsSlot (s.slots.get n) = true := by
  cases x with
  | free => exact iff_of_true rfl fun _ _ => rfl
  | staged m | opened m refs | closing m refs d ticket =>
    simp only [Window.ofSlot_iff, Window.mapping, Option.some.injEq, exists_eq_left', forall_eq']
    exact Iff.rfl

/-! ### The references, engine by engine -/

/-- The references of a window as its engine holds them; another engine holds none (R1, R18). -/
def RefsHeld (s : State) : Prop :=
  ∀ n w, (s.links.get n).heldWindows.count w = if (s.windows.get w).ofSlot n then (s.windows.get w).refs else 0

theorem RefsHeld.references {s : State} (h : RefsHeld s) : ReferencesHeld s where
  counted w := by
    unfold RefsHeld at h
    rw [State.count_heldWindows]
    simp only [h]
    cases hwindow : s.windows.get w with
    | free => simp [Window.ofSlot, Window.mapping, Window.refs]
    | staged m | opened m refs | closing m refs d ticket => simp [Window.ofSlot, Window.mapping, Window.refs]
  own n w hmem := by
    by_contra hnot
    have hcount := h n w
    rw [if_neg hnot] at hcount
    exact List.count_eq_zero.1 hcount hmem

/-! ### The parts -/

/-- What `Safe` says out of part reset, part by part, but that an IDLE controller leaves no slot waiting (R76). -/
structure Sound (s : State) : Prop where
  slot : ∀ n, SlotFits (s.slots.get n) (s.links.get n)
  ident : IdentHeld s
  units : s.committed ≤ s.config.budget
  budget : s.config.budget ≤ Config.maxBudget
  mapping : ∀ w m, (s.windows.get w).mapping = some m → m.inRange = true
  apart : ∀ v w page, v ≠ w → (s.windows.get v).covers page = true → (s.windows.get w).covers page = false
  grantOnce : ∀ v w n q, v ≠ w → (s.windows.get v).grants n q = true → (s.windows.get w).grants n q = false
  fits : ∀ w n, (s.windows.get w).ofSlot n = true → (s.windows.get w).fitsSlot (s.slots.get n) = true
  refs : RefsHeld s
  hostTags : HostTagsHeld s
  closeTickets : CloseTicketsHeld s
  slotTickets : ∀ n, SlotTickets s n

theorem Safe.sound {s : State} (h : Safe s) : Sound s where
  slot n :=
    { link := h.lifecycle.link n
      power := (Slot.powerFits_iff _).1 (h.power.slot n)
      timers := (Slot.timersFit_iff _ _).1 (h.timers n)
      profile := h.ranges.profile n
      capacity := h.queues.capacity n
      tags := h.queues.tags n
      idle := h.queues.idle n }
  ident := ⟨h.lifecycle.queueOnce, h.lifecycle.queueExact, h.lifecycle.reading, h.lifecycle.sound⟩
  units := h.power.budget
  budget := h.ranges.budget
  mapping := h.ranges.window
  apart := h.windows.apart
  grantOnce := h.windows.grantOnce
  fits w := (Window.fits_iff s _).1 (h.windows.fits w)
  refs := h.references.count_eq
  hostTags := h.hostTags
  closeTickets := h.tickets.closeTickets
  slotTickets := h.tickets.slotTickets

/-- The parts make `Safe` where no slot waits on an IDLE controller (R76). -/
theorem Sound.safe {s : State} (h : Sound s) (hreset : ResetHeld s)
    (hserved : s.ident = .idle → s.identQueue = []) : Safe s where
  lifecycle :=
    { link := fun n => (h.slot n).link
      queueOnce := h.ident.queueOnce
      queueExact := h.ident.queueExact
      reading := h.ident.reading
      served := hserved
      sound := h.ident.sound }
  reset := hreset
  power := ⟨fun n => (Slot.powerFits_iff _).2 (h.slot n).power, h.units⟩
  timers n := (Slot.timersFit_iff _ _).2 (h.slot n).timers
  ranges := ⟨h.mapping, fun n => (h.slot n).profile, h.budget⟩
  windows := ⟨h.apart, h.grantOnce, fun w => (Window.fits_iff s _).2 (h.fits w)⟩
  references := h.refs.references
  queues := ⟨fun n => (h.slot n).capacity, fun n => (h.slot n).tags, fun n => (h.slot n).idle⟩
  hostTags := h.hostTags
  tickets := .of_parts h.closeTickets h.slotTickets

/-- The parts speak of these records alone. -/
theorem Sound.of_records {s t : State} (h : Sound s) (hhostTable : t.hostTable = s.hostTable)
    (hwindows : t.windows = s.windows) (hslots : t.slots = s.slots) (hlinks : t.links = s.links)
    (hidentQueue : t.identQueue = s.identQueue) (hident : t.ident = s.ident) (hconfig : t.config = s.config)
    (htickets : t.tickets = s.tickets) : Sound t := by
  obtain ⟨hslot, hidents, hunits, hbudget, hmapping, hapart, honce, hfits, hrefs, hhost, hclose, hticks⟩ := h
  cases s
  cases t
  simp only at hhostTable hwindows hslots hlinks hidentQueue hident hconfig htickets
  subst hhostTable hwindows hslots hlinks hidentQueue hident hconfig htickets
  exact
    { slot := hslot
      ident := ⟨hidents.queueOnce, hidents.queueExact, hidents.reading, hidents.sound⟩
      units := hunits
      budget := hbudget
      mapping := hmapping
      apart := hapart
      grantOnce := honce
      fits := hfits
      refs := hrefs
      hostTags := hhost
      closeTickets := ⟨hclose.open_of_field, hclose.field_of_open⟩
      slotTickets := fun n => ⟨(hticks n).once, (hticks n).progress, (hticks n).admission, (hticks n).ejection⟩ }

/-! ### A step at one slot -/

theorem Window.covers_of_mapping {x y : Window} (h : y.mapping = none ∨ y.mapping = x.mapping) {page : Nat}
    (hy : y.covers page = true) : x.covers page = true := by
  unfold Window.covers at hy ⊢
  rcases h with hnone | hsame
  · rw [hnone] at hy
    cases hy
  · rwa [hsame] at hy

theorem Window.grants_of_mapping {x y : Window} (h : y.mapping = none ∨ y.mapping = x.mapping) {n : SlotIx} {q : Fin 6}
    (hy : y.grants n q = true) : x.grants n q = true := by
  unfold Window.grants at hy ⊢
  rcases h with hnone | hsame
  · rw [hnone] at hy
    cases hy
  · rwa [hsame] at hy

theorem Window.ofSlot_of_mapping {x y : Window} (h : y.mapping = none ∨ y.mapping = x.mapping) {n : SlotIx}
    (hy : y.ofSlot n = true) : x.ofSlot n = true := by
  unfold Window.ofSlot at hy ⊢
  rcases h with hnone | hsame
  · rw [hnone] at hy
    cases hy
  · rwa [hsame] at hy

/-- A sum over a table after one record is replaced. -/
theorem sum_put {α : Type} (f : α → Nat) (t : Tbl 8 α) (n : SlotIx) (x : α) :
    (∑ j, f ((t.put n x).get j)) + f (t.get n) = (∑ j, f (t.get j)) + f x := by
  have hpoint (j : SlotIx) :
      f ((t.put n x).get j) + (if j = n then f (t.get n) else 0) = f (t.get j) + if j = n then f x else 0 := by
    rw [Tbl.get_put]
    split
    · rename_i hj
      rw [hj, Nat.add_comm]
    · rfl
  have hsum := Finset.sum_congr (rfl : (Finset.univ : Finset SlotIx) = Finset.univ) fun j _ => hpoint j
  simpa only [Finset.sum_add_distrib, Finset.sum_ite_eq', Finset.mem_univ, if_true] using hsum

/-- The committed units after one slot record is replaced. -/
theorem State.committed_put {s t : State} {n : SlotIx} {r : Slot} (hslots : t.slots = s.slots.put n r) :
    t.committed + (s.slots.get n).committedUnits.toNat = s.committed + r.committedUnits.toNat := by
  have hsum (u : State) : u.committed = ∑ j, (u.slots.get j).committedUnits.toNat := by
    rw [State.committed, Fin.sum_univ_def]
  rw [hsum, hsum, hslots]
  exact sum_put (fun r => r.committedUnits.toNat) s.slots n r

/-- A step that moves one slot, its engine, its windows and its tickets, and leaves the windows of the others. -/
theorem Sound.local {s t : State} (h : Sound s) (n : SlotIx)
    (hslots : ∀ j, j ≠ n → t.slots.get j = s.slots.get j) (hlinks : ∀ j, j ≠ n → t.links.get j = s.links.get j)
    (hconfig : t.config = s.config) (hfits : SlotFits (t.slots.get n) (t.links.get n)) (hident : IdentHeld t)
    (hunits : t.committed ≤ s.config.budget)
    (hmapping : ∀ w, (t.windows.get w).mapping = none ∨ (t.windows.get w).mapping = (s.windows.get w).mapping)
    (hwindows : ∀ w, (t.windows.get w).ofSlot n = true → (t.windows.get w).fitsSlot (t.slots.get n) = true)
    (hother : ∀ w j, j ≠ n → (s.windows.get w).ofSlot j = true → t.windows.get w = s.windows.get w)
    (hrefs : ∀ w, (t.links.get n).heldWindows.count w =
      if (t.windows.get w).ofSlot n then (t.windows.get w).refs else 0)
    (hhost : HostTagsHeld t) (hclose : CloseTicketsHeld t) (htickets : ∀ j, SlotTickets t j) : Sound t where
  slot j := by
    by_cases hj : j = n
    · rw [hj]
      exact hfits
    · rw [hslots j hj, hlinks j hj]
      exact h.slot j
  ident := hident
  units := by
    rw [hconfig]
    exact hunits
  budget := by
    rw [hconfig]
    exact h.budget
  mapping w m hm := by
    rcases hmapping w with hnone | hsame
    · exact nomatch hnone.symm.trans hm
    · exact h.mapping w m (hsame ▸ hm)
  apart v w page hne hv := Bool.eq_false_iff.2 fun hw =>
    Bool.eq_false_iff.1 (h.apart v w page hne (Window.covers_of_mapping (hmapping v) hv))
      (Window.covers_of_mapping (hmapping w) hw)
  grantOnce v w m q hne hv := Bool.eq_false_iff.2 fun hw =>
    Bool.eq_false_iff.1 (h.grantOnce v w m q hne (Window.grants_of_mapping (hmapping v) hv))
      (Window.grants_of_mapping (hmapping w) hw)
  fits w j hof := by
    by_cases hj : j = n
    · subst hj
      exact hwindows w hof
    · have hof' := Window.ofSlot_of_mapping (hmapping w) hof
      rw [hother w j hj hof', hslots j hj]
      exact h.fits w j hof'
  refs j w := by
    by_cases hj : j = n
    · rw [hj]
      exact hrefs w
    · rw [hlinks j hj, h.refs j w]
      by_cases hof : (s.windows.get w).ofSlot j = true
      · rw [hother w j hj hof]
      · rw [if_neg hof, if_neg fun hof' => hof (Window.ofSlot_of_mapping (hmapping w) hof')]
  hostTags := hhost
  closeTickets := hclose
  slotTickets := htickets

/-! ### A step that leaves the windows -/

/-- What the windows of a slot ask of its record is still there (R6, R12, R25). -/
structure KeepsWindows (r r' : Slot) : Prop where
  profile : r.profile.isSome = true → r'.profile.isSome = true
  active : r.state = .active → r'.state = .active
  ejecting : r.state = .ejecting → r'.state = .active ∨ r'.state = .ejecting

theorem KeepsWindows.refl (r : Slot) : KeepsWindows r r := ⟨id, id, .inr⟩

theorem KeepsWindows.fits {r r' : Slot} (h : KeepsWindows r r') {x : Window} (hx : x.fitsSlot r = true) :
    x.fitsSlot r' = true := by
  cases x with
  | free => rfl
  | staged m => exact h.profile hx
  | opened m refs => exact beq_iff_eq.2 (h.active (beq_iff_eq.1 hx))
  | closing m refs d ticket =>
    simp only [Window.fitsSlot, Bool.and_eq_true, Bool.or_eq_true, beq_iff_eq] at hx ⊢
    exact ⟨hx.1.elim (fun hactive => .inl (h.active hactive)) h.ejecting, hx.2⟩

/-- The tickets of a slot whose state and OPEN tickets have not moved. -/
theorem SlotTickets.congr {s t : State} {n : SlotIx} (h : SlotTickets s n)
    (hstate : (t.slots.get n).state = (s.slots.get n).state)
    (htickets : ∀ k op, op.onSlot n = true →
      ((t.tickets.get k).body = .opened op ↔ (s.tickets.get k).body = .opened op)) : SlotTickets t n where
  once j k hj hk := by
    have hopen (i : Fin 8) (hi : (t.tickets.get i).openFor (TicketOp.onSlot n) = true) :
        (s.tickets.get i).openFor (TicketOp.onSlot n) = true := by
      obtain ⟨op, hbody, hon⟩ := Ticket.openFor_iff.1 hi
      exact Ticket.openFor_iff.2 ⟨op, (htickets i op hon).1 hbody, hon⟩
    exact h.once j k (hopen j hj) (hopen k hk)
  progress k op hbody hon := by
    rw [hstate]
    exact h.progress k op ((htickets k op hon).1 hbody) hon
  admission hrunning := by
    rw [hstate] at hrunning
    exact (h.admission hrunning).imp fun k => (htickets k (.admission n) (beq_self_eq_true n)).2
  ejection hrunning := by
    rw [hstate] at hrunning
    exact (h.ejection hrunning).imp fun k => (htickets k (.ejection n) (beq_self_eq_true n)).2

theorem State.count_owedTags (s : State) (t : HostTag) :
    s.owedTags.count t = ∑ n, (s.links.get n).owedTags.count t := by
  rw [State.owedTags, List.count_flatMap, Fin.sum_univ_def]
  rfl

/-- The answers owed are the same when each engine owes the same. -/
theorem HostTagsHeld.congr {s t : State} (h : HostTagsHeld s) (htable : t.hostTable = s.hostTable)
    (howed : ∀ n, ((t.links.get n).owed).Perm (s.links.get n).owed) : HostTagsHeld t := by
  intro tag
  rw [htable, ← h tag, State.count_owedTags, State.count_owedTags]
  exact Finset.sum_congr rfl fun n _ => ((howed n).filterMap _).count_eq tag

/-- A step that moves one slot and its engine, which owes what it owed, and leaves the windows. -/
theorem Sound.slotMoved {s t : State} (h : Sound s) {n : SlotIx} {r : Slot} {l : Link}
    (hslots : t.slots = s.slots.put n r) (hlinks : t.links = s.links.put n l) (hwindows : t.windows = s.windows)
    (htable : t.hostTable = s.hostTable) (hconfig : t.config = s.config) (hfits : SlotFits r l)
    (howed : l.owed.Perm (s.links.get n).owed)
    (hkept : ∀ w, (s.windows.get w).ofSlot n = true → (s.windows.get w).fitsSlot r = true)
    (hunits : r.committedUnits.toNat ≤ (s.slots.get n).committedUnits.toNat ∨ t.committed ≤ s.config.budget)
    (hident : IdentHeld t) (hclose : CloseTicketsHeld t) (htickets : ∀ j, SlotTickets t j) : Sound t := by
  have hslot : t.slots.get n = r := by rw [hslots, Tbl.get_put, if_pos rfl]
  have hlink : t.links.get n = l := by rw [hlinks, Tbl.get_put, if_pos rfl]
  have hslots' (j : SlotIx) (hj : j ≠ n) : t.slots.get j = s.slots.get j := by rw [hslots, Tbl.get_put, if_neg hj]
  have hlinks' (j : SlotIx) (hj : j ≠ n) : t.links.get j = s.links.get j := by rw [hlinks, Tbl.get_put, if_neg hj]
  refine h.local n hslots' hlinks' hconfig (by rw [hslot, hlink]; exact hfits) hident ?_
    (fun w => .inr (by rw [hwindows])) (fun w => ?_) (fun w j _ _ => by rw [hwindows]) (fun w => ?_)
    (h.hostTags.congr htable fun j => ?_) hclose htickets
  · rcases hunits with hle | hle
    · have hsum := State.committed_put hslots
      have hbudget := h.units
      omega
    · exact hle
  · rw [hwindows, hslot]
    exact hkept w
  · rw [hwindows, hlink, ← h.refs n w]
    exact (howed.map _).count_eq w
  · by_cases hj : j = n
    · rw [hj, hlink]
      exact howed
    · rw [hlinks' j hj]

/-! ### A step that leaves the windows and the tickets -/

theorem CloseTicketsHeld.congr {s t : State} (h : CloseTicketsHeld s) (hwindows : t.windows = s.windows)
    (htickets : t.tickets = s.tickets) : CloseTicketsHeld t := by
  constructor
  · rw [hwindows, htickets]
    exact h.open_of_field
  · rw [hwindows, htickets]
    exact h.field_of_open

theorem IdentHeld.put {s t : State} (h : IdentHeld s) {n : SlotIx} {r : Slot} (hslots : t.slots = s.slots.put n r)
    (hqueue : t.identQueue = s.identQueue) (hident : t.ident = s.ident)
    (hqueued : r.state = .queued ↔ (s.slots.get n).state = .queued)
    (hidentifying : r.state = .identifying ↔ (s.slots.get n).state = .identifying) : IdentHeld t where
  queueOnce := by
    rw [hqueue]
    exact h.queueOnce
  queueExact j := by
    rw [hqueue, h.queueExact, hslots, Tbl.get_put]
    split
    · rename_i hj
      rw [hj]
      exact hqueued.symm
    · exact Iff.rfl
  reading j := by
    rw [hident, ← h.reading, hslots, Tbl.get_put]
    split
    · rename_i hj
      rw [hj]
      exact hidentifying
    · exact Iff.rfl
  sound := by
    rw [hident]
    exact h.sound

/-- A slot may go from one state to the other with the OPEN tickets it has (3.10). -/
def keepsTickets (x y : SlotState) : Bool :=
  ((x == .powering || x == .linking) == (y == .powering || y == .linking)) && ((x == .ejecting) == (y == .ejecting))
    && (!(x == .queued || x == .identifying) || (y == .queued || y == .identifying))

theorem SlotTickets.moved {s t : State} {n : SlotIx} (h : SlotTickets s n) (htickets : t.tickets = s.tickets)
    (hkeeps : keepsTickets (s.slots.get n).state (t.slots.get n).state = true) : SlotTickets t n := by
  simp only [keepsTickets, Bool.and_eq_true, beq_iff_eq] at hkeeps
  obtain ⟨⟨hadmission, hejection⟩, hrecovery⟩ := hkeeps
  refine ⟨fun j k => by rw [htickets]; exact h.once j k, fun k op hbody hon => ?_, fun hrunning => ?_,
    fun hrunning => ?_⟩
  · rw [htickets] at hbody
    have hruns := h.progress k op hbody hon
    cases op with
    | close w => rfl
    | admission m => exact hadmission.symm.trans hruns
    | ejection m => exact hejection.symm.trans hruns
    | recovery m =>
      simp only [TicketOp.runsIn] at hruns ⊢
      rw [hruns] at hrecovery
      exact hrecovery
  · rw [htickets]
    rw [show ((t.slots.get n).state == .powering || (t.slots.get n).state == .linking) = true by simpa using hrunning]
      at hadmission
    exact h.admission (by simpa using hadmission)
  · rw [htickets]
    rw [hrunning] at hejection
    exact h.ejection (by simpa using hejection)

theorem SlotTickets.put {s t : State} (h : ∀ j, SlotTickets s j) {n : SlotIx} {r : Slot}
    (hslots : t.slots = s.slots.put n r) (htickets : t.tickets = s.tickets)
    (hkeeps : keepsTickets (s.slots.get n).state r.state = true) (j : SlotIx) : SlotTickets t j := by
  by_cases hj : j = n
  · subst hj
    exact (h j).moved htickets (by rw [hslots, Tbl.get_put, if_pos rfl]; exact hkeeps)
  · exact (h j).congr (by rw [hslots, Tbl.get_put, if_neg hj]) fun k op _ => by rw [htickets]

theorem Sound.keepsWindows {s : State} (h : Sound s) {n : SlotIx} {r : Slot} (hkeeps : KeepsWindows (s.slots.get n) r)
    (w : WinIx) (hof : (s.windows.get w).ofSlot n = true) : (s.windows.get w).fitsSlot r = true :=
  hkeeps.fits (h.fits w n hof)

end Sys2Proof.Machine

/-! PROOFS. A slot record and its engine go on agreeing: one lemma for each way a slot moves. -/

namespace Sys2Proof.Machine

-- One proof at a time: side by side they take more threads than the check's memory limit allows.
set_option Elab.async false

open Sys2Proof.Expected

section

variable {r : Slot} {l : Link}

/-- An engine that is not UP has no work (R38, R97). -/
theorem Link.idle_iff (l : Link) : l.idle = true ↔ l.queue = [] ∧ ∀ k, l.tags.get k = .free := by
  simp only [Link.idle, Bool.and_eq_true, List.isEmpty_iff, List.all_eq_true, List.mem_finRange, true_implies,
    beq_iff_eq]

theorem Link.tagsInUse_of_idle (h : l.idle = true) : l.tagsInUse = 0 := by
  simp [Link.tagsInUse, ((l.idle_iff).1 h).2]

theorem Link.owed_of_idle (h : l.idle = true) : l.owed = [] := by
  have hfree := (l.idle_iff).1 h
  simp [Link.owed, hfree.1, hfree.2, LinkTag.owed]

theorem Link.idle_reset : Link.reset.idle = true := by
  rw [Link.idle_iff]
  exact ⟨rfl, Tbl.get_fill _⟩

/-- An engine without work keeps the limits whatever the slot (R38, R97). -/
theorem SlotFits.of_idle (hlink : r.state.goesWith l.state = true) (hpower : PowerFits r) (htimers : TimersFit r l)
    (hprofile : ∀ p, r.profile = some p → p.inRange = true) (hidle : l.idle = true) : SlotFits r l where
  link := hlink
  power := hpower
  timers := htimers
  profile := hprofile
  capacity := by rw [(l.idle_iff.1 hidle).1]; exact Nat.zero_le _
  tags := by rw [Link.tagsInUse_of_idle hidle]; exact Nat.zero_le _
  idle _ := hidle

theorem SlotFits.idle_of_state (h : SlotFits r l) (hactive : r.state ≠ .active) (hejecting : r.state ≠ .ejecting) :
    l.idle = true := by
  refine h.idle fun hup => ?_
  have hlink := h.link
  rw [hup] at hlink
  cases hstate : r.state with
  | active => exact hactive hstate
  | ejecting => exact hejecting hstate
  | _ => rw [hstate] at hlink; exact Bool.noConfusion hlink

/-- A slot of these states has its link DOWN, and an engine without work (R90). -/
theorem SlotFits.down (h : SlotFits r l) (hlinking : r.state ≠ .linking) (hactive : r.state ≠ .active)
    (hejecting : r.state ≠ .ejecting) : l.state = .down ∧ l.idle = true := by
  refine ⟨?_, h.idle_of_state hactive hejecting⟩
  have hlink := h.link
  cases hstate : r.state with
  | linking => exact absurd hstate hlinking
  | active => exact absurd hstate hactive
  | ejecting => exact absurd hstate hejecting
  | _ => rw [hstate] at hlink; exact beq_iff_eq.1 hlink

/-- A record that differs in its posted failure and its timers alone. -/
theorem SlotFits.withTimers (h : SlotFits r l) {posted : Option PostedFailure} {filter : Timer}
    {power : Option PowerTimer} (hfilter : filter.isSome = true → r.state.filtered = true)
    (hpower : power.isSome = r.powerTimer.isSome) :
    SlotFits { r with posted, removalFilter := filter, powerTimer := power } l where
  link := h.link
  power := ⟨h.power.profile, h.power.main, h.power.units⟩
  timers :=
    { settle := h.timers.settle
      power := by rw [← h.timers.power, ← hpower]
      filter := hfilter
      quiesce := h.timers.quiesce
      training := h.timers.training
      tagsHeld := h.timers.tagsHeld
      tagsRange := h.timers.tagsRange }
  profile := h.profile
  capacity := h.capacity
  tags := h.tags
  idle := h.idle

theorem SlotState.powered_eq_false_iff (x : SlotState) :
    x.powered = false ↔ x ≠ .powering ∧ x ≠ .linking ∧ x ≠ .active ∧ x ≠ .ejecting := by
  cases x <;> simp [SlotState.powered]

/-- From one state without power to another: the record takes the state, the profile and the settle timer that go with
it (R50, R51). -/
theorem SlotFits.rest (h : SlotFits r l) (hstate : r.state.powered = false) {state : SlotState}
    {profile : Option Profile} {settle : Timer} (hrest : state.powered = false)
    (hprofile : state.profileFits profile.isSome = true) (hrange : ∀ p, profile = some p → p.inRange = true)
    (hsettle : settle.isSome = true ↔ state = .settling)
    (hfilter : r.removalFilter.isSome = true → state.filtered = true) :
    SlotFits { r with state, profile, settleTimer := settle } l := by
  obtain ⟨hpowering, hlinking, hactive, hejecting⟩ := r.state.powered_eq_false_iff.1 hstate
  obtain ⟨hpowering', hlinking', hactive', hejecting'⟩ := state.powered_eq_false_iff.1 hrest
  obtain ⟨hdown, hidle⟩ := h.down hlinking hactive hejecting
  have hpower := h.power
  have htimers := h.timers
  refine .of_idle ?_ ⟨hprofile, ?_, ?_⟩
    ⟨hsettle, ?_, hfilter, htimers.quiesce, htimers.training, ?_, htimers.tagsRange⟩ hrange hidle
  · rw [hdown]
    cases state <;> simp_all [SlotState.goesWith]
  · exact (hpower.main.trans hstate).trans hrest.symm
  · simpa [hstate, hrest] using hpower.units
  · simpa [hpowering, hpowering'] using htimers.power
  · simpa [hactive, hejecting, hactive', hejecting'] using htimers.tagsHeld

/-! ### Power, training and ejection -/

/-- IDENTIFIED to POWERING (R57). -/
theorem SlotFits.startAdmission (h : SlotFits r l) (hstate : r.state = .identified) (config : PartConfig)
    (good : Bool) : SlotFits (r.startAdmission config good) l := by
  obtain ⟨hdown, hidle⟩ := h.down (by simp [hstate]) (by simp [hstate]) (by simp [hstate])
  have htimers := h.timers
  refine .of_idle (by rw [hdown]; rfl) ⟨?_, rfl, rfl⟩
    ⟨?_, by simp [Slot.startAdmission], fun _ => rfl, htimers.quiesce, htimers.training, ?_, htimers.tagsRange⟩
    h.profile
    hidle
  · simpa [hstate, SlotState.profileFits, Slot.startAdmission] using h.power.profile
  · simpa [hstate, Slot.startAdmission] using htimers.settle
  · simpa [hstate, Slot.startAdmission] using htimers.tagsHeld

/-- POWERING to LINKING, and the link from DOWN to TRAINING (R59, R94). -/
theorem SlotFits.qualify (h : SlotFits r l) (hstate : r.state = .powering) (micros : Nat) :
    SlotFits { r with state := .linking, powerTimer := none }
      { l with state := .training, trainingTimer := some micros } := by
  obtain ⟨hdown, hidle⟩ := h.down (by simp [hstate]) (by simp [hstate]) (by simp [hstate])
  have hpower := h.power
  have htimers := h.timers
  refine .of_idle rfl ⟨?_, ?_, ?_⟩ ⟨?_, by simp, fun _ => rfl, ?_, by simp, ?_, htimers.tagsRange⟩ h.profile
    (by rwa [Link.idle_iff] at hidle ⊢)
  · simpa [hstate, SlotState.profileFits] using hpower.profile
  · simpa [hstate, SlotState.powered] using hpower.main
  · simpa [hstate, SlotState.powered, Slot.powerUnits] using hpower.units
  · simpa [hstate] using htimers.settle
  · simpa [hdown] using htimers.quiesce
  · simpa [hstate] using htimers.tagsHeld

/-- LINKING to ACTIVE, and the link from TRAINING to UP (R60). -/
theorem SlotFits.toActive (h : SlotFits r l) (hstate : r.state = .linking) {count : Nat}
    (hcount : 1 ≤ count ∧ count ≤ 8) :
    SlotFits { r with state := .active, usableTags := some count } { l with state := .up, trainingTimer := none } := by
  have hidle := h.idle_of_state (by simp [hstate]) (by simp [hstate])
  have htraining : l.state = .training := by
    have hlink := h.link
    rw [hstate] at hlink
    exact beq_iff_eq.1 hlink
  have hpower := h.power
  have htimers := h.timers
  refine .of_idle rfl ⟨?_, ?_, ?_⟩ ⟨?_, ?_, fun _ => rfl, ?_, by simp, by simp, ?_⟩ h.profile
    (by rwa [Link.idle_iff] at hidle ⊢)
  · simpa [hstate, SlotState.profileFits] using hpower.profile
  · simpa [hstate, SlotState.powered] using hpower.main
  · simpa [hstate, SlotState.powered, Slot.powerUnits] using hpower.units
  · simpa [hstate] using htimers.settle
  · simpa [hstate] using htimers.power
  · simpa [htraining] using htimers.quiesce
  · rintro u hu
    obtain rfl : count = u := by simpa using hu
    exact hcount

/-- ACTIVE to EJECTING (R66). -/
theorem SlotFits.eject (h : SlotFits r l) (hstate : r.state = .active) :
    SlotFits { r with state := .ejecting } l := by
  have hup : l.state = .up := by
    have hlink := h.link
    rw [hstate] at hlink
    exact beq_iff_eq.1 hlink
  have hpower := h.power
  have htimers := h.timers
  refine ⟨by rw [hup]; rfl, ⟨?_, ?_, ?_⟩,
    ⟨?_, ?_, fun _ => rfl, htimers.quiesce, htimers.training, ?_, htimers.tagsRange⟩, h.profile, h.capacity, h.tags,
    h.idle⟩
  · simpa [hstate, SlotState.profileFits] using hpower.profile
  · simpa [hstate, SlotState.powered] using hpower.main
  · simpa [hstate, SlotState.powered, Slot.powerUnits] using hpower.units
  · simpa [hstate] using htimers.settle
  · simpa [hstate] using htimers.power
  · simpa [hstate] using htimers.tagsHeld

/-- The link of an EJECTING slot from UP to QUIESCING, with its last tags dropped (R68). -/
theorem SlotFits.quiesce (h : SlotFits r l) (hstate : r.state = .ejecting) {l' : Link} (hlink : l'.state = .quiescing)
    (hidle : l'.idle = true) (htraining : l'.trainingTimer = l.trainingTimer) (hup : l.state = .up) (micros : Nat) :
    SlotFits { r with quiesceTimer := some micros } l' := by
  have htimers := h.timers
  refine .of_idle ?_ ⟨h.power.profile, h.power.main, h.power.units⟩
    ⟨htimers.settle, htimers.power, htimers.filter, by simp [hlink], ?_, htimers.tagsHeld, htimers.tagsRange⟩ h.profile
    hidle
  · rw [hlink]
    simp only [hstate]
    rfl
  · rw [htraining, hlink]
    simpa [hup] using htimers.training

/-- A slot whose power goes off with its link DOWN (R63, R69): FAULTED, or IDENTIFIED with its profile. -/
theorem SlotFits.powerOff (h : SlotFits r l) {state : SlotState} {posted : Option PostedFailure} {l' : Link}
    (hrest : state = .identified ∧ r.profile.isSome = true ∨ ∃ cause, state = .faulted cause)
    (hunsettled : r.state ≠ .settling) (hdown : l'.state = .down)
    (hidle : l'.idle = true) (htraining : l'.trainingTimer = none) :
    SlotFits { r with state, committedUnits := 0, mainPower := false, usableTags := none, posted, powerTimer := none,
                      quiesceTimer := none } l' := by
  have htimers := h.timers
  have hsettle : r.settleTimer.isSome = false := Bool.eq_false_iff.2 fun hsome => hunsettled (htimers.settle.1 hsome)
  rcases hrest with ⟨rfl, hprofile⟩ | ⟨cause, rfl⟩
  · exact .of_idle (by rw [hdown]; rfl) ⟨hprofile, rfl, rfl⟩
      ⟨by simp [hsettle], by simp, fun _ => rfl, by simp [hdown], by simp [htraining, hdown], by simp, by simp⟩
      h.profile
      hidle
  · exact .of_idle (by rw [hdown]; rfl) ⟨rfl, rfl, rfl⟩
      ⟨by simp [hsettle], by simp, fun _ => rfl, by simp [hdown], by simp [htraining, hdown], by simp, by simp⟩
      h.profile
      hidle

/-- A slot without a module (R53). -/
theorem SlotFits.reset : SlotFits Slot.reset Link.reset :=
  .of_idle rfl ⟨rfl, rfl, rfl⟩
    ⟨by simp [Slot.reset], by simp [Slot.reset], by simp [Slot.reset], by simp [Slot.reset, Link.reset],
      by simp [Link.reset], by simp [Slot.reset], by simp [Slot.reset]⟩ (by simp [Slot.reset]) Link.idle_reset

end

end Sys2Proof.Machine

/-! PROOFS. The invariant through the events of a slot that leave the windows: presence, power, training, the
identification of a module. -/

namespace Sys2Proof.Machine

-- One proof at a time: side by side they take more threads than the check's memory limit allows.
set_option Elab.async false

open Sys2Proof.Expected

section

variable {s t : State} {n : SlotIx}

/-! ### One slot record replaced -/

theorem keepsTickets_self (x : SlotState) : keepsTickets x x = true := by
  cases x <;> rfl

/-- A record that differs in its posted failure and its timers alone. -/
theorem Sound.putTimers (h : Sound s) {posted : Option PostedFailure} {filter : Timer} {power : Option PowerTimer}
    (hfilter : filter.isSome = true → (s.slots.get n).state.filtered = true)
    (hpower : power.isSome = (s.slots.get n).powerTimer.isSome) :
    Sound (s.putSlot n { s.slots.get n with posted, removalFilter := filter, powerTimer := power }) :=
  h.slotMoved rfl (put_get_self _ _).symm rfl rfl rfl ((h.slot n).withTimers hfilter hpower) (.refl _)
    (h.keepsWindows ⟨id, id, .inr⟩) (.inl le_rfl) (h.ident.put rfl rfl rfl Iff.rfl Iff.rfl)
    (h.closeTickets.congr rfl rfl)
    (.put h.slotTickets rfl rfl (keepsTickets_self _))

/-- From one state without power to another. -/
theorem Sound.restMoved (h : Sound s) (hstate : (s.slots.get n).state.powered = false) {state : SlotState}
    {profile : Option Profile} {settle : Timer}
    (hslots : t.slots = s.slots.put n { s.slots.get n with state, profile, settleTimer := settle })
    (hlinks : t.links = s.links) (hwindows : t.windows = s.windows) (htable : t.hostTable = s.hostTable)
    (hconfig : t.config = s.config) (hrest : state.powered = false)
    (hprofile : state.profileFits profile.isSome = true) (hrange : ∀ p, profile = some p → p.inRange = true)
    (hkept : (s.slots.get n).profile.isSome = true → profile.isSome = true)
    (hsettle : settle.isSome = true ↔ state = .settling)
    (hfilter : (s.slots.get n).removalFilter.isSome = true → state.filtered = true) (hident : IdentHeld t)
    (hclose : CloseTicketsHeld t) (htickets : ∀ j, SlotTickets t j) : Sound t := by
  obtain ⟨-, -, hactive, hejecting⟩ := (s.slots.get n).state.powered_eq_false_iff.1 hstate
  exact h.slotMoved hslots (hlinks.trans (put_get_self _ _).symm) hwindows htable hconfig
    ((h.slot n).rest hstate hrest hprofile hrange hsettle hfilter) (.refl _)
    (h.keepsWindows ⟨hkept, fun ha => absurd ha hactive, fun he => absurd he hejecting⟩) (.inl le_rfl) hident hclose
    htickets

/-- No module has been found seated: EMPTY or SETTLING (R50). -/
def SlotState.vacant (x : SlotState) : Prop := x = .empty ∨ x = .settling

theorem SlotState.vacant_facts {x : SlotState} (h : x.vacant) :
    x.powered = false ∧ (∀ held, x.profileFits held = !held) ∧ x.filtered = false ∧ x ≠ .queued ∧ x ≠ .identifying := by
  rcases h with rfl | rfl
  · simp [SlotState.powered, SlotState.profileFits, SlotState.filtered]
  · simp [SlotState.powered, SlotState.profileFits, SlotState.filtered]

theorem keepsTickets_vacant {x y : SlotState} (hx : x.vacant) (hy : y.vacant) : keepsTickets x y = true := by
  rcases hx with rfl | rfl
  · rcases hy with rfl | rfl
    · rfl
    · rfl
  · rcases hy with rfl | rfl
    · rfl
    · rfl

/-- Between EMPTY and SETTLING (R51). -/
theorem Sound.putSettling (h : Sound s) {state : SlotState} {settle : Timer} (hstate : (s.slots.get n).state.vacant)
    (hstate' : state.vacant) (hsettle : settle.isSome = true ↔ state = .settling) :
    Sound (s.putSlot n { s.slots.get n with state, settleTimer := settle }) := by
  obtain ⟨hpowered, hfits, hfiltered, hqueued, hidentifying⟩ := SlotState.vacant_facts hstate
  obtain ⟨hpowered', hfits', -, hqueued', hidentifying'⟩ := SlotState.vacant_facts hstate'
  have hprofile := (h.slot n).power.profile
  rw [hfits, ← hfits'] at hprofile
  exact h.restMoved (n := n) hpowered rfl rfl rfl rfl rfl hpowered' hprofile (h.slot n).profile id hsettle
    (fun hsome => Bool.noConfusion (hfiltered.symm.trans ((h.slot n).timers.filter hsome)))
    (h.ident.put rfl rfl rfl (iff_of_false hqueued' hqueued) (iff_of_false hidentifying' hidentifying))
    (h.closeTickets.congr rfl rfl) (.put h.slotTickets rfl rfl (keepsTickets_vacant hstate hstate'))

theorem Sound.presenceRises (h : Sound s) (n : SlotIx) : Sound (s.presenceRises n) := by
  unfold State.presenceRises
  split
  · rename_i hempty
    exact h.putSettling (.inl hempty) (.inr rfl) (by simp)
  · exact h.putTimers (by simp) rfl

theorem Sound.presenceFalls (h : Sound s) (n : SlotIx) : Sound (s.presenceFalls n) := by
  unfold State.presenceFalls
  split
  · exact h
  · rename_i hsettling
    exact h.putSettling (.inr hsettling) (.inl rfl) (by simp)
  · rename_i hempty hsettling
    refine h.putTimers (fun _ => ?_) rfl
    cases hstate : (s.slots.get n).state with
    | empty => exact absurd hstate hempty
    | settling => exact absurd hstate hsettling
    | _ => rfl

/-! ### The Identification Queue (R75, R76) -/

/-- The controller at rest takes the head of the queue into service. -/
theorem Sound.serveIdent (h : Sound s) : Sound s.serveIdent := by
  unfold State.serveIdent
  split
  · rename_i m rest hidle hqueue
    have hqueued : (s.slots.get m).state = .queued := (h.ident.queueExact m).1
      (by rw [hqueue]; exact List.mem_cons_self)
    have honce := h.ident.queueOnce
    rw [hqueue, List.nodup_cons] at honce
    have hprofile := (h.slot m).power.profile
    rw [hqueued] at hprofile
    have hsettle : (s.slots.get m).settleTimer.isSome = false := Bool.eq_false_iff.2 fun hsome => by
      exact SlotState.noConfusion (hqueued.symm.trans ((h.slot m).timers.settle.1 hsome))
    refine h.restMoved (n := m) (state := .identifying) (profile := (s.slots.get m).profile)
      (settle := (s.slots.get m).settleTimer) (by rw [hqueued]; rfl) rfl rfl rfl rfl rfl rfl hprofile
      (h.slot m).profile id
      (by simp [hsettle]) (fun _ => rfl) ⟨honce.2, fun j => ?_, fun j => ?_, rfl⟩ (h.closeTickets.congr rfl rfl)
      (.put h.slotTickets rfl rfl (by rw [hqueued]; rfl))
    · show j ∈ rest ↔ ((s.slots.put m _).get j).state = _
      rw [Tbl.get_put]
      split
      · rename_i hj
        subst hj
        simp [honce.1]
      · rename_i hj
        rw [← h.ident.queueExact j, hqueue, List.mem_cons]
        simp [hj]
    · show ((s.slots.put m _).get j).state = _ ↔ some m = some j
      rw [Tbl.get_put]
      split
      · rename_i hj
        subst hj
        simp
      · rename_i hj
        rw [h.ident.reading j, hidle]
        simp [IdentCtl.serving, Ne.symm hj]
  · exact h

/-- After the controller has looked at the queue, none waits on it while it is IDLE (R76). -/
theorem State.serveIdent_served (s : State) : s.serveIdent.ident = .idle → s.serveIdent.identQueue = [] := by
  unfold State.serveIdent
  split
  · exact fun hidle => nomatch hidle
  · rename_i hnot
    intro hidle
    cases hqueue : s.identQueue with
    | nil => rfl
    | cons n rest => exact (hnot n rest hidle hqueue).elim

/-- A slot without a module's profile joins the tail of the queue (R51, R75). -/
theorem IdentHeld.append (h : IdentHeld s) {r : Slot} (hslots : t.slots = s.slots.put n r)
    (hqueue : t.identQueue = s.identQueue ++ [n]) (hident : t.ident = s.ident) (hr : r.state = .queued)
    (hqueued : (s.slots.get n).state ≠ .queued) (hidentifying : (s.slots.get n).state ≠ .identifying) :
    IdentHeld t where
  queueOnce := by
    rw [hqueue]
    refine List.Nodup.append h.queueOnce (List.nodup_singleton n) ?_
    simpa [h.queueExact n] using hqueued
  queueExact j := by
    rw [hqueue, hslots, Tbl.get_put, List.mem_append, h.queueExact j, List.mem_singleton]
    split
    · rename_i hj
      simp [hj, hr]
    · rename_i hj
      simp [hj]
  reading j := by
    rw [hident, ← h.reading j, hslots, Tbl.get_put]
    split
    · rename_i hj
      simp [hj, hr, hidentifying]
    · exact Iff.rfl
  sound := by
    rw [hident]
    exact h.sound

theorem Sound.settled (h : Sound s) (n : SlotIx) : Sound (s.settled n) := by
  unfold State.settled
  split
  · rename_i hsettling
    obtain ⟨hstate, -⟩ := hsettling
    have hprofile := (h.slot n).power.profile
    rw [hstate] at hprofile
    refine Sound.serveIdent (h.restMoved (n := n) (state := .queued) (profile := (s.slots.get n).profile)
      (settle := none) (by rw [hstate]; rfl) rfl rfl rfl rfl rfl rfl hprofile (h.slot n).profile id (by simp)
      (fun _ => rfl) (h.ident.append rfl rfl rfl rfl ?_ ?_) (h.closeTickets.congr rfl rfl)
      (.put h.slotTickets rfl rfl ?_))
    · simp [hstate]
    · simp [hstate]
    · rw [hstate]
      rfl
  · exact h

/-! ### Power good and training (R58, R59, R94) -/

theorem Sound.powerGoodRises (h : Sound s) (n : SlotIx) : Sound (s.powerGoodRises n) := by
  unfold State.powerGoodRises
  split
  · rename_i hstate htimer
    exact h.putTimers (h.slot n).timers.filter (by rw [htimer]; rfl)
  · exact h

theorem Sound.qualified (h : Sound s) (n : SlotIx) : Sound (s.qualified n) := by
  unfold State.qualified
  split
  · rename_i hstate htimer
    exact h.slotMoved rfl rfl rfl rfl rfl ((h.slot n).qualify hstate _) (.refl _)
      (h.keepsWindows ⟨id, by simp [hstate], by simp [hstate]⟩) (.inl le_rfl)
      (h.ident.put rfl rfl rfl (by simp [hstate]) (by simp [hstate]))
      (h.closeTickets.congr rfl rfl) (.put h.slotTickets rfl rfl (by rw [hstate]; rfl))
  · exact h

/-! ### The end of a slot's operation (3.10) -/

theorem State.finishSlotTicket_tickets (once : slotTicketOnce s n) (outcome : TicketOutcome)
    (detail : Option TicketDetail) :
    (s.finishSlotTicket n outcome detail).tickets =
      s.tickets.each fun _ => Ticket.ended (slotEnding n outcome detail) := by
  rw [State.finishSlotTicket_eq once, withOutcomes_eq]
  rfl

theorem slotEnding_close (outcome : TicketOutcome) (detail : Option TicketDetail) (w : WinIx) :
    slotEnding n outcome detail (.close w) = none := by
  simp [slotEnding]

theorem slotEnding_other {outcome : TicketOutcome} {detail : Option TicketDetail} {j : SlotIx} {op : TicketOp}
    (hon : op.onSlot j = true) (hj : j ≠ n) : slotEnding n outcome detail op = none := by
  rcases TicketOp.onSlot_iff.1 hon with rfl | rfl | rfl <;> simp [slotEnding, hj]

theorem CloseTicketsHeld.slotEnded {outcome : TicketOutcome} {detail : Option TicketDetail} (h : CloseTicketsHeld s)
    (hwindows : t.windows = s.windows)
    (htickets : t.tickets = s.tickets.each fun _ => Ticket.ended (slotEnding n outcome detail)) :
    CloseTicketsHeld t where
  open_of_field w id hid := by
    rw [hwindows] at hid
    rw [htickets, Tbl.get_each, Ticket.ended_opened_iff, Ticket.ended_id]
    obtain ⟨hbody, hsame⟩ := h.open_of_field w id hid
    exact ⟨⟨hbody, slotEnding_close _ _ w⟩, hsame⟩
  field_of_open w k hbody := by
    rw [htickets, Tbl.get_each, Ticket.ended_opened_iff] at hbody
    rw [hwindows, htickets, Tbl.get_each, Ticket.ended_id]
    exact h.field_of_open w k hbody.1

/-- In these states a slot has no operation that must have a ticket (3.10). -/
def SlotState.ticketless (x : SlotState) : Prop := x ≠ .powering ∧ x ≠ .linking ∧ x ≠ .ejecting

theorem SlotTickets.ended {outcome : TicketOutcome} {detail : Option TicketDetail} (h : ∀ j, SlotTickets s j)
    (hstate : (t.slots.get n).state.ticketless) (hother : ∀ j, j ≠ n → (t.slots.get j).state = (s.slots.get j).state)
    (htickets : t.tickets = s.tickets.each fun _ => Ticket.ended (slotEnding n outcome detail)) (j : SlotIx) :
    SlotTickets t j := by
  have hbody (k : Fin 8) (op : TicketOp) : (t.tickets.get k).body = .opened op ↔
      (s.tickets.get k).body = .opened op ∧ slotEnding n outcome detail op = none := by
    rw [htickets, Tbl.get_each, Ticket.ended_opened_iff]
  by_cases hj : j = n
  · subst hj
    obtain ⟨hpowering, hlinking, hejecting⟩ := hstate
    have hnone (k : Fin 8) (op : TicketOp) (hopen : (t.tickets.get k).body = .opened op) : ¬op.onSlot j = true := by
      intro hon
      have hend := ((hbody k op).1 hopen).2
      rw [slotEnding_of_onSlot hon] at hend
      cases hend
    refine ⟨fun i k hi _ => ?_, fun k op hopen hon => absurd hon (hnone k op hopen), fun hrunning => ?_,
      fun hrunning => ?_⟩
    · obtain ⟨op, hopen, hon⟩ := Ticket.openFor_iff.1 hi
      exact absurd hon (hnone i op hopen)
    · exact absurd hrunning (not_or.2 ⟨hpowering, hlinking⟩)
    · exact absurd hrunning hejecting
  · refine (h j).congr (hother j hj) fun k op hon => ?_
    rw [hbody, slotEnding_other hon hj]
    exact and_iff_left rfl

/-- A slot moves and its OPEN ticket ends. -/
theorem Sound.slotEnded {r : Slot} {l : Link} {outcome : TicketOutcome} {detail : Option TicketDetail} (h : Sound s)
    (hslots : t.slots = s.slots.put n r) (hlinks : t.links = s.links.put n l) (hwindows : t.windows = s.windows)
    (htable : t.hostTable = s.hostTable) (hconfig : t.config = s.config)
    (htickets : t.tickets = s.tickets.each fun _ => Ticket.ended (slotEnding n outcome detail)) (hfits : SlotFits r l)
    (howed : l.owed.Perm (s.links.get n).owed)
    (hkept : ∀ w, (s.windows.get w).ofSlot n = true → (s.windows.get w).fitsSlot r = true)
    (hunits : r.committedUnits.toNat ≤ (s.slots.get n).committedUnits.toNat) (hstate : r.state.ticketless)
    (hident : IdentHeld t) : Sound t :=
  h.slotMoved hslots hlinks hwindows htable hconfig hfits howed hkept (.inl hunits) hident
    (h.closeTickets.slotEnded hwindows htickets)
    (.ended h.slotTickets (by rw [hslots, Tbl.get_put, if_pos rfl]; exact hstate)
      (fun j hj => by rw [hslots, Tbl.get_put, if_neg hj]) htickets)

/-- A slot and its engine move, a cause of the slot is raised and its OPEN ticket ends. -/
theorem Sound.operationEnds (h : Sound s) {r : Slot} {l : Link} (c : Cause) (outcome : TicketOutcome)
    (detail : Option TicketDetail) (hfits : SlotFits r l) (howed : l.owed.Perm (s.links.get n).owed)
    (hkept : ∀ w, (s.windows.get w).ofSlot n = true → (s.windows.get w).fitsSlot r = true)
    (hunits : r.committedUnits.toNat ≤ (s.slots.get n).committedUnits.toNat)
    (hstate : r.state.ticketless) (hqueued : r.state = .queued ↔ (s.slots.get n).state = .queued)
    (hidentifying : r.state = .identifying ↔ (s.slots.get n).state = .identifying) :
    Sound ((((s.putLink n l).putSlot n r).raise c).finishSlotTicket n outcome detail) := by
  have once : slotTicketOnce (((s.putLink n l).putSlot n r).raise c) n := (h.slotTickets n).once
  have hslots : ((((s.putLink n l).putSlot n r).raise c).finishSlotTicket n outcome detail).slots =
      s.slots.put n r := by
    simp
  exact h.slotEnded hslots (by simp) (by simp) (by simp) (by simp) (State.finishSlotTicket_tickets once _ _) hfits howed
    hkept hunits hstate (h.ident.put hslots (by simp) (by simp) hqueued hidentifying)

theorem Sound.admitted (h : Sound s) (n : SlotIx) {count : Nat} (hcount : 1 ≤ count ∧ count ≤ 8)
    (htraining : (s.links.get n).state = .training) : Sound (s.admitted n count) := by
  have hstate : (s.slots.get n).state = .linking := by
    have hlink := (h.slot n).link
    rw [htraining] at hlink
    cases hstate : (s.slots.get n).state with
    | linking => rfl
    | _ => rw [hstate] at hlink; exact Bool.noConfusion hlink
  exact h.operationEnds _ _ _ ((h.slot n).toActive hstate hcount) (.refl _)
    (h.keepsWindows ⟨id, by simp [hstate], by simp [hstate]⟩) le_rfl (by simp [SlotState.ticketless])
    (by simp [hstate]) (by simp [hstate])

/-! ### The end of an ejection (R69) -/

/-- A slot whose link is QUIESCING is EJECTING (R90). -/
theorem SlotFits.ejecting_of_quiescing {r : Slot} {l : Link} (h : SlotFits r l) (hlink : l.state = .quiescing) :
    r.state = .ejecting := by
  have hgoes := h.link
  rw [hlink] at hgoes
  cases hstate : r.state with
  | ejecting => rfl
  | _ => rw [hstate] at hgoes; exact Bool.noConfusion hgoes

theorem SlotFits.profile_of_ejecting {r : Slot} {l : Link} (h : SlotFits r l) (hstate : r.state = .ejecting) :
    r.profile.isSome = true := by
  have hprofile := h.power.profile
  rwa [hstate] at hprofile

theorem Safe.endEjection_sound (h : Safe s) (hlink : (s.links.get n).state = .quiescing) (outcome : TicketOutcome) :
    Sound (s.endEjection n outcome) := by
  have hsound := h.sound
  have hfits := hsound.slot n
  have hstate := hfits.ejecting_of_quiescing hlink
  have hprofile := hfits.profile_of_ejecting hstate
  have hidle : Link.idle { s.links.get n with state := .down } = true := by
    rw [Link.idle_iff]
    exact (Link.idle_iff _).1 (hfits.idle (by simp [hlink]))
  have htraining : (s.links.get n).trainingTimer = none := by
    have htimer := hfits.timers.training
    rw [hlink] at htimer
    simpa using htimer
  exact hsound.operationEnds (.ejected n) outcome none
    (hfits.powerOff (.inl ⟨rfl, hprofile⟩) (by simp [hstate]) rfl hidle htraining) (.refl _)
    (fun w hof => by
      obtain ⟨m, hmapping, hslot⟩ := Window.ofSlot_iff.1 hof
      rw [h.staged_of_quiescing hlink hmapping hslot]
      exact hprofile) (Nat.zero_le _) (by simp [SlotState.ticketless]) (by simp [hstate]) (by simp [hstate])

/-! ### The controller alone (R78 to R82) -/

/-- A step that moves the Identification Queue and its controller alone. -/
theorem Sound.identMoved (h : Sound s) (hslots : t.slots = s.slots) (hlinks : t.links = s.links)
    (hwindows : t.windows = s.windows) (htable : t.hostTable = s.hostTable) (hconfig : t.config = s.config)
    (htickets : t.tickets = s.tickets) (hident : IdentHeld t) : Sound t :=
  h.slotMoved (n := 0) (hslots.trans (put_get_self _ _).symm) (hlinks.trans (put_get_self _ _).symm) hwindows htable
    hconfig (h.slot 0) (.refl _) (h.keepsWindows (.refl _)) (.inl le_rfl) hident
    (h.closeTickets.congr hwindows htickets)
    fun j => (h.slotTickets j).congr (by rw [hslots]) fun k op _ => by rw [htickets]

theorem Sound.putIdent (h : Sound s) {c : IdentCtl} (hserving : c.serving = s.ident.serving) (hsound : c.sound = true) :
    Sound (s.putIdent c) :=
  h.identMoved rfl rfl rfl rfl rfl rfl
    ⟨h.ident.queueOnce, h.ident.queueExact, fun j => (h.ident.reading j).trans (by rw [← hserving]; exact Iff.rfl),
    hsound⟩

theorem Sound.onIdentLink (h : Sound s) (items : List BusItem) : Sound (s.onIdentLink items) :=
  h.of_records rfl rfl rfl rfl rfl rfl rfl rfl

/-! ### The end of a read (R84, R85) -/

/-- What the end of a read leaves: FAULTED without a profile, or IDENTIFIED with one. -/
def endsRead (state : SlotState) (profile : Option Profile) : Prop :=
  (∃ cause, state = .faulted cause) ∧ profile = none ∨
    state = .identified ∧ ∃ p, profile = some p ∧ p.inRange = true

theorem endsRead_facts {state : SlotState} {profile : Option Profile} (h : endsRead state profile) :
    state.powered = false ∧ state.profileFits profile.isSome = true ∧ (∀ p, profile = some p → p.inRange = true) ∧
      state.filtered = true ∧ state ≠ .settling ∧ state ≠ .queued ∧ state ≠ .identifying ∧ state.ticketless := by
  rcases h with ⟨⟨cause, rfl⟩, rfl⟩ | ⟨rfl, p, rfl, hp⟩
  · simp [SlotState.powered, SlotState.profileFits, SlotState.filtered, SlotState.ticketless]
  · simp [SlotState.powered, SlotState.profileFits, SlotState.filtered, SlotState.ticketless, hp]

theorem Sound.readEnds (h : Sound s) (hserving : s.ident.serving = some n) {state : SlotState}
    {profile : Option Profile} (hends : endsRead state profile) (c : Cause) (outcome : TicketOutcome)
    (detail : Option TicketDetail) :
    Sound
      ((((s.putSlot n { s.slots.get n with state, profile }).raise c).finishSlotTicket n outcome
        detail).identIdle) := by
  obtain ⟨hrest, hprofile, hrange, hfiltered, hsettling, hqueued, hidentifying, hticketless⟩ := endsRead_facts hends
  have hstate : (s.slots.get n).state = .identifying := (h.ident.reading n).2 hserving
  have hnone : (s.slots.get n).profile.isSome = false := by
    have hheld := (h.slot n).power.profile
    rw [hstate] at hheld
    simpa [SlotState.profileFits] using hheld
  have hsettle : (s.slots.get n).settleTimer.isSome = false := Bool.eq_false_iff.2 fun hsome =>
    SlotState.noConfusion (hstate.symm.trans ((h.slot n).timers.settle.1 hsome))
  have once : slotTicketOnce ((s.putSlot n { s.slots.get n with state, profile }).raise c) n := (h.slotTickets n).once
  refine Sound.serveIdent (h.slotEnded (n := n) (outcome := outcome) (detail := detail)
    (r := { s.slots.get n with state, profile, settleTimer := (s.slots.get n).settleTimer }) (l := s.links.get n)
    (by simp)
    (by simp [put_get_self]) (by simp) (by simp) (by simp) (State.finishSlotTicket_tickets once outcome detail)
    ((h.slot n).rest (by rw [hstate]; rfl) hrest hprofile hrange (by simp [hsettle, hsettling]) fun _ => hfiltered)
    (.refl _) (h.keepsWindows ⟨by simp [hnone], by simp [hstate], by simp [hstate]⟩) le_rfl hticketless ?_)
  refine ⟨by simpa using h.ident.queueOnce, fun j => ?_, fun j => ?_, rfl⟩
  · simp only [State.putIdent_identQueue, State.finishSlotTicket_identQueue, State.raise_identQueue,
      State.putSlot_identQueue, State.putIdent_slots, State.finishSlotTicket_slots, State.raise_slots,
      State.putSlot_slots, Tbl.get_put]
    rw [h.ident.queueExact j]
    split
    · rename_i hj
      simp [hj, hstate, hqueued]
    · exact Iff.rfl
  · simp only [State.putIdent_slots, State.finishSlotTicket_slots, State.raise_slots, State.putSlot_slots, Tbl.get_put]
    split
    · simp [hidentifying, IdentCtl.serving]
    · rename_i hj
      rw [h.ident.reading j, hserving]
      simp [IdentCtl.serving, Ne.symm hj]

theorem Sound.readFails (h : Sound s) {r : ReadRecord} (hserving : s.ident.serving = some r.slot) (cause : FaultCause) :
    Sound (s.readFails r cause) :=
  h.readEnds hserving (.inl ⟨⟨cause, rfl⟩, rfl⟩) _ _ _

theorem Sound.readSucceeds (h : Sound s) {r : ReadRecord} (hserving : s.ident.serving = some r.slot) {p : Profile}
    (hp : p.inRange = true) : Sound (s.readSucceeds r p) :=
  h.readEnds hserving (.inr ⟨rfl, p, rfl, hp⟩) _ _ _

end

end Sys2Proof.Machine

/-! PROOFS. The invariant through the events of the identification link. -/

namespace Sys2Proof.Machine

-- One proof at a time: side by side they take more threads than the check's memory limit allows.
set_option Elab.async false

open Sys2Proof.Expected

/-! ### A read in progress stays sound (R79 to R81) -/

section

variable {r : ReadRecord}

theorem ReadRecord.sound_of_header (hattempt : 1 ≤ r.attempt ∧ r.attempt ≤ 3) (hsent : r.sent ≤ 3)
    (hphase : r.phase = .header) (hlength : r.bytes.length < 4) (himage : r.imageLength = none)
    (hopened : r.bytes = [] ∨ r.sent = 3) : r.sound = true := by
  simp [ReadRecord.sound, hattempt, hsent, hphase, hlength, himage, hopened]

theorem ReadRecord.sound_of_body {b0 b1 b2 b3 : Byte} {rest : List Byte} (hattempt : 1 ≤ r.attempt ∧ r.attempt ≤ 3)
    (hsent : r.sent ≤ 3) (hphase : r.phase = .body) (hbytes : r.bytes = b0 :: b1 :: b2 :: b3 :: rest)
    (hpasses : headerPasses b0 b1 b2 b3 = true) (himage : r.imageLength = some (17 + 8 * b1.toNat))
    (hlength : 4 + rest.length < 17 + 8 * b1.toNat) (hopened : rest = [] ∨ r.sent = 3) : r.sound = true := by
  have hlen : leNat [b2, b3] = 17 + 8 * b1.toNat := by
    have := ((headerPasses_iff b0 b1 b2 b3).1 hpasses).2.2
    simpa [leNat] using this
  simp [ReadRecord.sound, hattempt, hsent, hphase, hbytes, hpasses, himage, hlen, hlength, hopened]

/-- A run of bytes leaves the part's bytes sent when it brings an image byte, and not before (R80, R81). -/
theorem readOn_opened (size : Nat) (run : List Transfer) {received : List Byte} (hopened : received = [] ∨ r.sent = 3) :
    (readOn size r run).sent ≤ 3 ∧
      (received ++ (imageBytes run).take (size - r.bytes.length) = [] ∨ (readOn size r run).sent = 3) := by
  unfold readOn
  dsimp only
  split
  · rename_i hnone
    refine ⟨Nat.min_le_left _ _, ?_⟩
    rw [hnone, List.take_nil, List.append_nil]
    exact hopened.imp_right fun h => by omega
  · exact ⟨le_rfl, .inr rfl⟩

theorem ReadRecord.sound_readOn_header (h : r.sound = true) (hphase : r.phase = .header) (run : List Transfer)
    (hmore : (readOn 4 r run).bytes.length < 4) : (readOn 4 r run).sound = true := by
  obtain ⟨hattempt, -⟩ := ReadRecord.sound_attempt h
  obtain ⟨-, himage, hopened⟩ := ReadRecord.sound_header h hphase
  obtain ⟨hsent', hopened'⟩ := readOn_opened 4 run hopened
  exact ReadRecord.sound_of_header hattempt hsent' hphase hmore himage hopened'

theorem ReadRecord.sound_readOn_body (h : r.sound = true) (hphase : r.phase = .body) (run : List Transfer)
    {length : Nat} (hlength : r.imageLength = some length) (hmore : (readOn length r run).bytes.length < length) :
    (readOn length r run).sound = true := by
  obtain ⟨hattempt, -⟩ := ReadRecord.sound_attempt h
  obtain ⟨b0, b1, b2, b3, rest, hbytes, hpasses, himage, -, hopened⟩ := ReadRecord.sound_body h hphase
  obtain rfl : length = 17 + 8 * b1.toNat := by simpa [hlength] using himage
  obtain ⟨hsent', hopened'⟩ := readOn_opened (17 + 8 * b1.toNat) run hopened
  have hbytes' : (readOn (17 + 8 * b1.toNat) r run).bytes =
      b0 :: b1 :: b2 :: b3 :: (rest ++ (imageBytes run).take (17 + 8 * b1.toNat - r.bytes.length)) := by
    simp [readOn, hbytes]
  refine ReadRecord.sound_of_body hattempt hsent' hphase hbytes' hpasses himage ?_ hopened'
  rw [hbytes'] at hmore
  simp only [List.length_cons] at hmore
  omega

/-! ### The profile of an accepted image (R83, R87) -/

theorem pagesAt_bounds (image : List Byte) (j : Nat) : 1 ≤ pagesAt image j ∧ pagesAt image j ≤ 65536 := by
  have hlow : byteAt image (18 + 8 * j) < 256 := (image.getD _ 0).isLt
  have hhigh : byteAt image (19 + 8 * j) < 256 := (image.getD _ 0).isLt
  unfold pagesAt
  omega

theorem profileAt_inRange {image : List Byte} {count : Nat} (hcount : count ≤ 6) (h : imageAccepted image count) :
    (profileAt image count).inRange = true := by
  rw [Profile.inRange_iff]
  refine ⟨by simpa [profileAt] using hcount, fun q hq => ?_⟩
  obtain ⟨j, hj, rfl⟩ := List.mem_map.1 hq
  obtain ⟨-, -, halign, -, hrange⟩ := h.2 j (List.mem_range.1 hj)
  obtain ⟨hlow, hhigh⟩ := pagesAt_bounds image j
  exact (Request.inRange_iff _).2 ⟨halign, hlow, hhigh, hrange⟩

end

/-! ### The events -/

section

variable {s : State} {r : ReadRecord}

theorem IdentHeld.sound_of_reading (h : IdentHeld s) (hident : s.ident = .reading r) :
    r.sound = true ∧ s.ident.serving = some r.slot := by
  have hsound := h.sound
  rw [hident] at hsound
  exact ⟨hsound, by rw [hident]; rfl⟩

theorem Sound.attemptFailure (h : Sound s) (hident : s.ident = .reading r) : Sound (s.attemptFailure r) := by
  obtain ⟨hsound, hserving⟩ := h.ident.sound_of_reading hident
  unfold State.attemptFailure
  split
  · rename_i hattempt
    refine h.putIdent hserving.symm ?_
    simp only [IdentCtl.sound, hsound, Bool.true_and, decide_eq_true_eq]
    omega
  · exact h.readFails hserving _

theorem Sound.busCleared (h : Sound s) (pulses : Option (Fin 10)) : Sound (s.busCleared pulses) := by
  unfold State.busCleared
  split
  · rename_i r hident
    obtain ⟨hsound, hserving⟩ := h.ident.sound_of_reading hident
    split
    · rename_i hphase
      obtain ⟨hsent, hbytes, himage⟩ := ReadRecord.sound_busClear hsound hphase
      split
      · refine (h.onIdentLink _).putIdent hserving.symm ?_
        refine ReadRecord.sound_of_header (ReadRecord.sound_attempt hsound).1 (ReadRecord.sound_attempt hsound).2 rfl ?_
          himage (.inl hbytes)
        rw [hbytes]
        exact Nat.zero_lt_succ 3
      · exact (h.onIdentLink _).attemptFailure hident
    · exact h
  · exact h

theorem Sound.headerRead (h : Sound s) (run : List Transfer) : Sound (s.headerRead run) := by
  unfold State.headerRead
  split
  · rename_i r hident
    obtain ⟨hsound, hserving⟩ := h.ident.sound_of_reading hident
    split
    · rename_i hphase
      obtain ⟨hattempt, hsent⟩ := ReadRecord.sound_attempt hsound
      rw [ReadRecord.transfers_eq (ReadRecord.inTransaction_of_header hsound hphase)]
      dsimp only
      split
      · rename_i b0 b1 b2 b3 hbytes
        split
        · rename_i hpasses
          have hlen : leNat [b2, b3] = 17 + 8 * b1.toNat := by
            have := ((headerPasses_iff b0 b1 b2 b3).1 hpasses).2.2
            simpa [leNat] using this
          refine (h.onIdentLink _).putIdent hserving.symm ?_
          exact ReadRecord.sound_of_body (rest := []) hattempt (Nat.zero_le 3) rfl hbytes hpasses (congrArg some hlen)
            (by simp only [List.length_nil]; omega) (.inl rfl)
        · exact (h.onIdentLink _).readFails (r := readOn 4 r run) (by exact hserving) _
      · rename_i hnot
        refine (h.onIdentLink _).putIdent hserving.symm ?_
        refine ReadRecord.sound_readOn_header hsound hphase run ?_
        have hle : (readOn 4 r run).bytes.length ≤ 4 := by
          have hlt := (ReadRecord.sound_header hsound hphase).1
          simp only [readOn, List.length_append, List.length_take]
          omega
        refine lt_of_le_of_ne hle fun hfour => ?_
        obtain ⟨b0, b1, b2, b3, hbytes⟩ := List.length_eq_four.1 hfour
        exact hnot b0 b1 b2 b3 hbytes
    · exact h
  · exact h

theorem Sound.bodyRead (h : Sound s) (run : List Transfer) : Sound (s.bodyRead run) := by
  unfold State.bodyRead
  split
  · rename_i r hident
    obtain ⟨hsound, hserving⟩ := h.ident.sound_of_reading hident
    split
    · rename_i length hphase himage
      obtain ⟨hattempt, hsent⟩ := ReadRecord.sound_attempt hsound
      obtain ⟨b0, b1, b2, b3, rest, hbytes, hpasses, himage', hlength, -⟩ := ReadRecord.sound_body hsound hphase
      obtain rfl : length = 17 + 8 * b1.toNat := by simpa [himage] using himage'
      have hin : r.inTransaction (17 + 8 * b1.toNat) := ⟨by rw [hphase]; decide, hsent, .inl hlength⟩
      rw [ReadRecord.transfers_eq hin]
      dsimp only
      split
      · rename_i hmore
        exact (h.onIdentLink _).putIdent hserving.symm (ReadRecord.sound_readOn_body hsound hphase run himage hmore)
      · have hone : byteAt (readOn (17 + 8 * b1.toNat) r run).bytes 1 = b1.toNat := by
          simp [readOn, hbytes, byteAt]
        split
        · rename_i haccepted
          refine (h.onIdentLink _).readSucceeds (r := readOn (17 + 8 * b1.toNat) r run) (by exact hserving) ?_
          rw [imageProfile_eq hone]
          exact profileAt_inRange ((headerPasses_iff b0 b1 b2 b3).1 hpasses).2.1 ((imagePasses_iff hone).1 haccepted)
        · exact (h.onIdentLink _).readFails (r := readOn (17 + 8 * b1.toNat) r run) (by exact hserving) _
    · exact h
  · exact h

theorem Sound.missingAcknowledge (h : Sound s) : Sound s.missingAcknowledge := by
  unfold State.missingAcknowledge
  split
  · rename_i r hident
    split
    · exact (h.onIdentLink _).attemptFailure hident
    · exact (h.onIdentLink _).attemptFailure hident
    · exact h
  · exact h

theorem Sound.retry (h : Sound s) : Sound s.retry := by
  unfold State.retry
  split
  · rename_i r micros hident
    have hsound := h.ident.sound
    rw [hident] at hsound
    simp only [IdentCtl.sound, Bool.and_eq_true, decide_eq_true_eq] at hsound
    obtain ⟨hattempt, -⟩ := ReadRecord.sound_attempt hsound.1
    refine h.putIdent (by rw [hident]; rfl) ?_
    have hnext : 1 ≤ r.attempt + 1 ∧ r.attempt + 1 ≤ 3 := by omega
    simp [IdentCtl.sound, ReadRecord.sound, ReadRecord.start, hnext]
  · exact h

theorem Sound.identIdle (h : Sound s) (hserving : s.ident.serving = none) : Sound s.identIdle :=
  (h.putIdent (c := .idle) hserving.symm rfl).serveIdent

theorem Sound.abandonedEnd (h : Sound s) : Sound s.abandonedEnd := by
  unfold State.abandonedEnd
  split
  · rename_i r hident
    exact (h.onIdentLink _).identIdle (by rw [State.onIdentLink_ident, hident]; rfl)
  · exact h

end

end Sys2Proof.Machine

/-! PROOFS. The invariant through the events of an engine: tags, sending, the quiesce test, and the accesses of the
host. -/

namespace Sys2Proof.Machine

-- One proof at a time: side by side they take more threads than the check's memory limit allows.
set_option Elab.async false

open Sys2Proof.Expected

/-! ### One link tag replaced -/

section

variable (l : Link) (k : TagIx) (y : LinkTag)

/-- The tags but one. -/
theorem finRange_perm_cons : (List.finRange 8).Perm (k :: (List.finRange 8).erase k) :=
  List.perm_cons_erase (List.mem_finRange k)

theorem putTag_get_of_mem_erase {j : TagIx} (hj : j ∈ (List.finRange 8).erase k) :
    (l.putTag k y).tags.get j = l.tags.get j := by
  have hne : j ≠ k := (((List.nodup_finRange 8).mem_erase_iff).1 hj).1
  rw [Link.putTag, Tbl.get_put, if_neg hne]

theorem putTag_get_self : (l.putTag k y).tags.get k = y := by
  rw [Link.putTag, Tbl.get_put, if_pos rfl]

/-- What an engine owes, one tag apart. -/
theorem Link.owed_perm : l.owed.Perm ((l.tags.get k).owed.toList ++
    (((List.finRange 8).erase k).filterMap (fun j => (l.tags.get j).owed) ++ l.queue.map Entry.owed)) := by
  rw [← List.append_assoc]
  refine List.Perm.append_right _ (((finRange_perm_cons k).filterMap _).trans ?_)
  rw [List.filterMap_cons]
  cases (l.tags.get k).owed with
  | none => exact .refl _
  | some o => exact .refl _

theorem Link.owed_putTag :
    ((l.putTag k y).owed ++ (l.tags.get k).owed.toList).Perm (l.owed ++ y.owed.toList) := by
  have hrest : ((List.finRange 8).erase k).filterMap (fun j => ((l.putTag k y).tags.get j).owed) =
      ((List.finRange 8).erase k).filterMap fun j => (l.tags.get j).owed :=
    List.filterMap_congr fun j hj => by rw [putTag_get_of_mem_erase l k y hj]
  have hput := (l.putTag k y).owed_perm k
  rw [hrest, putTag_get_self] at hput
  rw [List.perm_iff_count]
  intro o
  have hput := hput.count_eq o
  have hold := (l.owed_perm k).count_eq o
  simp only [List.count_append] at hput hold ⊢
  have hqueue : (l.putTag k y).queue = l.queue := rfl
  rw [hqueue] at hput
  omega

/-- The tags in use, one tag apart. -/
theorem Link.tagsInUse_putTag :
    (l.putTag k y).tagsInUse + (if l.tags.get k = .free then 0 else 1) =
      l.tagsInUse + if y = .free then 0 else 1 := by
  have hsplit (l : Link) : l.tagsInUse =
      (if l.tags.get k = .free then 0 else 1) +
        ((List.finRange 8).erase k).countP fun j => l.tags.get j != .free := by
    rw [Link.tagsInUse_eq, (finRange_perm_cons k).countP_eq, List.countP_cons, Nat.add_comm]
    by_cases hfree : l.tags.get k = .free
    · simp [hfree]
    · simp [hfree]
  have hrest : (((List.finRange 8).erase k).countP fun j => (l.putTag k y).tags.get j != .free) =
      ((List.finRange 8).erase k).countP fun j => l.tags.get j != .free :=
    List.countP_congr fun j hj => by rw [putTag_get_of_mem_erase l k y hj]
  rw [hsplit (l.putTag k y), hsplit l, hrest, putTag_get_self]
  omega

end

/-! ### Tags freed and entries sent (R97, R98, R100) -/

section

variable {s : State} {n : SlotIx}

/-- A tag that owes nothing is freed. -/
theorem SlotFits.freeTag {r : Slot} {l : Link} (h : SlotFits r l) (k : TagIx) : SlotFits r (l.putTag k .free) where
  link := h.link
  power := h.power
  timers := ⟨h.timers.settle, h.timers.power, h.timers.filter, h.timers.quiesce, h.timers.training, h.timers.tagsHeld,
    h.timers.tagsRange⟩
  profile := h.profile
  capacity := h.capacity
  tags := by
    have htags := l.tagsInUse_putTag k .free
    have hle := h.tags
    simp only [if_true] at htags
    omega
  idle hup := by
    obtain ⟨hqueue, hfree⟩ := (Link.idle_iff _).1 (h.idle hup)
    refine (Link.idle_iff _).2 ⟨hqueue, fun j => ?_⟩
    rw [Link.putTag, Tbl.get_put]
    split
    · rfl
    · exact hfree j

/-- A step that moves one engine, which owes what it owed. -/
theorem Sound.linkMoved {t : State} {l : Link} (h : Sound s) (hslots : t.slots = s.slots)
    (hlinks : t.links = s.links.put n l) (hwindows : t.windows = s.windows) (htable : t.hostTable = s.hostTable)
    (hconfig : t.config = s.config) (hqueue : t.identQueue = s.identQueue) (hident : t.ident = s.ident)
    (htickets : t.tickets = s.tickets) (hfits : SlotFits (s.slots.get n) l) (howed : l.owed.Perm (s.links.get n).owed) :
    Sound t :=
  have hput : t.slots = s.slots.put n (s.slots.get n) := hslots.trans (put_get_self _ _).symm
  h.slotMoved hput hlinks hwindows htable hconfig hfits howed (h.keepsWindows (.refl _)) (.inl le_rfl)
    (h.ident.put hput hqueue hident Iff.rfl Iff.rfl) (h.closeTickets.congr hwindows htickets)
    (.put h.slotTickets hput htickets (keepsTickets_self _))

theorem Sound.freeStale (h : Sound s) {k : TagIx} {r : TagRecord} (hstale : (s.links.get n).tags.get k = .stale r) :
    Sound (s.putLink n ((s.links.get n).putTag k .free)) := by
  have howed : ((s.links.get n).putTag k .free).owed.Perm (s.links.get n).owed := by
    have hperm := (s.links.get n).owed_putTag k .free
    rw [hstale] at hperm
    simpa [LinkTag.owed] using hperm
  exact h.linkMoved rfl rfl rfl rfl rfl rfl rfl rfl ((h.slot n).freeTag k) howed

theorem Sound.quarantineEnds (h : Sound s) (n : SlotIx) (k : TagIx) : Sound (s.quarantineEnds n k) := by
  unfold State.quarantineEnds
  split
  · rename_i r hstale
    exact h.freeStale hstale
  · exact h

/-- The head entry of the queue takes a FREE tag (R98). -/
theorem SlotFits.send {r : Slot} {l : Link} (h : SlotFits r l) {e : Entry} {rest : List Entry} {k : TagIx}
    {usable : Nat}
    {tag : TagRecord} (hqueue : l.queue = e :: rest) (hfree : l.tags.get k = .free)
    (husable : r.usableTags = some usable)
    (hroom : l.tagsInUse < usable) (hup : l.state = .up) :
    SlotFits r { l with queue := rest, tags := l.tags.put k (.inFlight tag) } where
  link := h.link
  power := h.power
  timers := ⟨h.timers.settle, h.timers.power, h.timers.filter, h.timers.quiesce, h.timers.training, h.timers.tagsHeld,
    h.timers.tagsRange⟩
  profile := h.profile
  capacity := by
    have hle := h.capacity
    rw [hqueue, List.length_cons] at hle
    exact Nat.le_of_succ_le hle
  tags := by
    have htags := l.tagsInUse_putTag k (.inFlight tag)
    rw [if_pos hfree, if_neg (by simp)] at htags
    have hsame : Link.tagsInUse { l with queue := rest, tags := l.tags.put k (.inFlight tag) } =
        (l.putTag k (.inFlight tag)).tagsInUse := rfl
    rw [hsame, husable, Option.getD_some]
    omega
  idle hnot := absurd hup hnot

theorem Sound.sendHead (h : Sound s) (n : SlotIx) : Sound (s.sendHead n) := by
  unfold State.sendHead
  split
  · rename_i e rest k hqueue htag
    obtain ⟨usable, husable, ⟨hup, hroom⟩, hfree⟩ := (s.sendTag_eq_some_iff n k).1 htag
    obtain ⟨hfree, -⟩ := Link.freeTag_eq_some.1 hfree
    refine h.linkMoved rfl rfl rfl rfl rfl rfl rfl rfl ((h.slot n).send hqueue hfree husable hroom hup) ?_
    have hperm := (s.links.get n).owed_putTag k (.inFlight (e.tagRecord s.config))
    rw [List.perm_iff_count] at hperm ⊢
    intro o
    have hcount := hperm o
    rw [hfree] at hcount
    simp only [Link.owed, Link.putTag, hqueue, List.map_cons, LinkTag.owed, Entry.owed, Entry.tagRecord,
      Option.toList_none, Option.toList_some, List.append_nil, List.count_append, List.count_cons, List.count_nil]
      at hcount ⊢
    omega
  · exact h

/-! ### The quiesce test (R68) -/

/-- An engine whose slot's windows hold no reference owes nothing. -/
theorem Sound.owed_of_noRefs (h : Sound s)
    (hrefs : ∀ w, (s.windows.get w).ofSlot n = true → (s.windows.get w).refs = 0) : (s.links.get n).owed = [] := by
  rw [← List.map_eq_nil_iff (f := Owed.window)]
  refine List.eq_nil_iff_forall_not_mem.2 fun w hmem => ?_
  have hcount := h.refs n w
  have hpos : 0 < (s.links.get n).heldWindows.count w := List.count_pos_iff.2 hmem
  split at hcount
  · rename_i hof
    rw [hrefs w hof] at hcount
    omega
  · omega

theorem Sound.testQuiesce (h : Sound s) (n : SlotIx) : Sound (s.testQuiesce n) := by
  cases hholds : s.quiesceHolds n with
  | false =>
    rw [(s.testQuiesce_eq n).2 hholds]
    exact h
  | true =>
    obtain ⟨hstate, hup, hrefs, hflight⟩ := (s.quiesceHolds_iff n).1 hholds
    have howed := h.owed_of_noRefs hrefs
    have hqueue : (s.links.get n).queue = [] := List.map_eq_nil_iff.1 (List.append_eq_nil_iff.1 howed).2
    have hidle : Link.idle
        { s.links.get n with
          state := .quiescing
          tags := (s.links.get n).tags.each fun _ => LinkTag.dropStale } = true := by
      refine (Link.idle_iff _).2 ⟨hqueue, fun k => ?_⟩
      show ((s.links.get n).tags.each fun _ => LinkTag.dropStale).get k = .free
      rw [Tbl.get_each]
      have hk := hflight k
      cases htag : (s.links.get n).tags.get k with
      | free => rfl
      | stale r => rfl
      | inFlight r =>
        rw [htag] at hk
        cases hk
    rw [(s.testQuiesce_eq n).1 hholds]
    refine h.slotMoved rfl rfl rfl rfl rfl ((h.slot n).quiesce hstate rfl hidle rfl hup _) ?_
      (h.keepsWindows ⟨id, id, .inr⟩) (.inl le_rfl) (h.ident.put rfl rfl rfl Iff.rfl Iff.rfl)
      (h.closeTickets.congr rfl rfl) (.put h.slotTickets rfl rfl (keepsTickets_self _))
    rw [Link.owed_of_idle hidle, howed]

theorem Sound.testAll (h : Sound s) (l : List SlotIx) : Sound (l.foldl State.testQuiesce s) := by
  induction l generalizing s with
  | nil => exact h
  | cons n l ih => exact ih (h.testQuiesce n)

end

end Sys2Proof.Machine

/-! PROOFS. The invariant through releases of references: requests that end, teardowns, the removal of a module. -/

namespace Sys2Proof.Machine

-- One proof at a time: side by side they take more threads than the check's memory limit allows.
set_option Elab.async false

open Sys2Proof.Expected

/-! ### Close tickets through a move of the windows (R20) -/

/-- From one record of a window to another its close ticket stays, or ends with the drain, or is none. -/
def closesTo (x y : Window) : Prop :=
  drainOutcome x y = none ∧ y.closeTicket = x.closeTicket ∨
    (drainOutcome x y).isSome = true ∧ y.closeTicket = none ∨ y.closeTicket = none ∧ x.closeTicket = none

section

variable {s t : State} {n : SlotIx}

theorem closesTo_refl (x : Window) : closesTo x x := .inl ⟨drainOutcome_self x, rfl⟩

theorem closesTo_releasedWindow (k : Nat) (x : Window) : closesTo x (releasedWindow k x) := by
  rcases closeTicket_releasedWindow k x with h | ⟨hsome, hnone, -⟩ | h
  · exact .inl h
  · exact .inr (.inl ⟨hsome, hnone⟩)
  · exact .inr (.inr h)

/-- The tickets agree with the windows after a move of the windows that ends the close tickets of the drained ones. -/
theorem CloseTicketsHeld.windowsMoved (h : CloseTicketsHeld s)
    (hcloses : ∀ w, closesTo (s.windows.get w) (t.windows.get w))
    (htickets : t.tickets = s.tickets.each fun _ => Ticket.ended (closeEnding s.windows t.windows)) :
    CloseTicketsHeld t where
  open_of_field w id hid := by
    rw [htickets, Tbl.get_each, Ticket.ended_opened_iff, Ticket.ended_id, closeEnding_close]
    rcases hcloses w with ⟨hnone, hkept⟩ | ⟨-, hgone⟩ | ⟨hgone, -⟩
    · obtain ⟨hbody, hsame⟩ := h.open_of_field w id (hkept ▸ hid)
      exact ⟨⟨hbody, hnone⟩, hsame⟩
    · exact nomatch hgone.symm.trans hid
    · exact nomatch hgone.symm.trans hid
  field_of_open w k hbody := by
    rw [htickets, Tbl.get_each, Ticket.ended_opened_iff, closeEnding_close] at hbody
    obtain ⟨hopen, hnone⟩ := hbody
    have hfield := h.field_of_open w k hopen
    rw [htickets, Tbl.get_each, Ticket.ended_id, ← hfield]
    rcases hcloses w with ⟨-, hkept⟩ | ⟨hsome, -⟩ | ⟨-, hfree⟩
    · exact hkept
    · rw [hnone] at hsome
      cases hsome
    · exact nomatch hfree.symm.trans hfield

/-- The end of close tickets leaves those of the slots. -/
theorem SlotTickets.closeEnded {before after : Tbl 64 Window} (h : SlotTickets s n)
    (hstate : (t.slots.get n).state = (s.slots.get n).state)
    (htickets : t.tickets = s.tickets.each fun _ => Ticket.ended (closeEnding before after)) : SlotTickets t n :=
  h.congr hstate fun k op hon => by
    have hnone : closeEnding before after op = none := by
      rcases TicketOp.onSlot_iff.1 hon with rfl | rfl | rfl <;> rfl
    rw [htickets, Tbl.get_each, Ticket.ended_opened_iff]
    exact and_iff_left hnone

/-! ### Answers given -/

/-- The answers owed after some of what an engine owes is gone, and its host tags are freed. -/
theorem HostTagsHeld.released {l : Link} {gone : List Owed} (h : HostTagsHeld s) (hlinks : t.links = s.links.put n l)
    (howed : (l.owed ++ gone).Perm (s.links.get n).owed)
    (htable : ∀ tag, t.hostTable.get tag = (s.hostTable.get tag && !(answerTags gone).contains tag)) :
    HostTagsHeld t := by
  intro tag
  have hsum := sum_put (fun l => l.owedTags.count tag) s.links n l
  have hold := h tag
  have hlink : l.owedTags.count tag + (answerTags gone).count tag = (s.links.get n).owedTags.count tag := by
    have hcount := (howed.filterMap fun o => if o.orphaned then none else o.hostTag).count_eq tag
    rw [List.filterMap_append, List.count_append] at hcount
    exact hcount
  rw [State.count_owedTags] at hold
  rw [State.count_owedTags, hlinks, htable tag]
  by_cases hmem : tag ∈ answerTags gone
  · have hpos := List.count_pos_iff.2 hmem
    have hcontains : (answerTags gone).contains tag = true := List.contains_iff_mem.2 hmem
    rw [hcontains, Bool.not_true, Bool.and_false, if_neg Bool.false_ne_true]
    split at hold <;> omega
  · have hzero := List.count_eq_zero.2 hmem
    have hcontains : (answerTags gone).contains tag = false :=
      Bool.eq_false_iff.2 fun hc => hmem (List.contains_iff_mem.1 hc)
    rw [hcontains, Bool.not_false, Bool.and_true]
    omega

/-- A step that takes references from the windows of a slot, answers their host tags and moves the slot. -/
theorem Sound.released {r : Slot} {l : Link} {gone : List Owed} (h : Sound s) (hslots : t.slots = s.slots.put n r)
    (hlinks : t.links = s.links.put n l) (hconfig : t.config = s.config) (hfits : SlotFits r l)
    (howed : (l.owed ++ gone).Perm (s.links.get n).owed)
    (htable : ∀ tag, t.hostTable.get tag = (s.hostTable.get tag && !(answerTags gone).contains tag))
    (hmapping : ∀ w, (t.windows.get w).mapping = none ∨ (t.windows.get w).mapping = (s.windows.get w).mapping)
    (hother : ∀ w j, j ≠ n → (s.windows.get w).ofSlot j = true → t.windows.get w = s.windows.get w)
    (hkept : ∀ w, (t.windows.get w).ofSlot n = true → (t.windows.get w).fitsSlot r = true)
    (hrefs : ∀ w, (if (t.windows.get w).ofSlot n then (t.windows.get w).refs else 0) + (gone.map Owed.window).count w =
      if (s.windows.get w).ofSlot n then (s.windows.get w).refs else 0)
    (hunits : r.committedUnits.toNat ≤ (s.slots.get n).committedUnits.toNat) (hident : IdentHeld t)
    (hclose : CloseTicketsHeld t) (htickets : ∀ j, SlotTickets t j) : Sound t := by
  have hslot : t.slots.get n = r := by rw [hslots, Tbl.get_put, if_pos rfl]
  have hlink : t.links.get n = l := by rw [hlinks, Tbl.get_put, if_pos rfl]
  refine h.local n (fun j hj => by rw [hslots, Tbl.get_put, if_neg hj])
    (fun j hj => by rw [hlinks, Tbl.get_put, if_neg hj])
    hconfig (by rw [hslot, hlink]; exact hfits) hident ?_ hmapping (by rw [hslot]; exact hkept) hother (fun w => ?_)
    (h.hostTags.released hlinks howed htable) hclose htickets
  · have hsum := State.committed_put hslots
    have hbudget := h.units
    omega
  · have hcount := (howed.map Owed.window).count_eq w
    rw [List.map_append, List.count_append] at hcount
    have hold := h.refs n w
    have hnew := hrefs w
    rw [hlink]
    unfold Link.heldWindows at hold ⊢
    omega

/-! ### The windows after a release (R18 to R20) -/

/-- The references of a window as slot `n` counts them. -/
def Window.refsOf (n : SlotIx) (x : Window) : Nat := if x.ofSlot n then x.refs else 0

theorem mapping_releasedWindow (k : Nat) (x : Window) :
    (releasedWindow k x).mapping = none ∨ (releasedWindow k x).mapping = x.mapping := by
  cases x with
  | free | staged | opened => exact .inr rfl
  | closing m refs d ticket =>
    by_cases hlast : 0 < k ∧ refs ≤ k
    · simp only [releasedWindow, if_pos hlast]
      cases d with
      | toStaged => exact .inr rfl
      | toFree => exact .inl rfl
    · simp only [releasedWindow, if_neg hlast]
      exact .inr rfl

theorem refsOf_of_refs (x y : Window) {k : Nat} (hmapping : y.mapping = x.mapping) (hrefs : y.refs = x.refs - k)
    (n : SlotIx) : y.refsOf n = x.refsOf n - k := by
  have hof : y.ofSlot n = x.ofSlot n := by
    unfold Window.ofSlot
    rw [hmapping]
  unfold Window.refsOf
  rw [hof, hrefs]
  by_cases hx : x.ofSlot n = true
  · rw [if_pos hx, if_pos hx]
  · rw [if_neg hx, if_neg hx, Nat.zero_sub]

theorem refsOf_eq_zero {x : Window} (h : x.refs = 0) (n : SlotIx) : x.refsOf n = 0 := by
  unfold Window.refsOf
  rw [h, ite_self]

theorem refsOf_releasedWindow (n : SlotIx) (k : Nat) (x : Window) :
    (releasedWindow k x).refsOf n = x.refsOf n - k := by
  cases x with
  | free => exact refsOf_of_refs .free .free rfl (Nat.zero_sub k).symm n
  | staged m => exact refsOf_of_refs (.staged m) (.staged m) rfl (Nat.zero_sub k).symm n
  | opened m refs => exact refsOf_of_refs (.opened m refs) (.opened m (refs - k)) rfl rfl n
  | closing m refs d ticket =>
    by_cases hlast : 0 < k ∧ refs ≤ k
    · have hgone : (Window.closing m refs d ticket).refsOf n - k = 0 := by
        unfold Window.refsOf
        split
        · exact Nat.sub_eq_zero_of_le hlast.2
        · exact Nat.zero_sub k
      simp only [releasedWindow, if_pos hlast, hgone]
      cases d with
      | toStaged => exact refsOf_eq_zero rfl n
      | toFree => exact refsOf_eq_zero rfl n
    · simp only [releasedWindow, if_neg hlast]
      exact refsOf_of_refs (.closing m refs d ticket) (.closing m (refs - k) d ticket) rfl rfl n

/-- A window of a slot that holds a profile while it is ACTIVE or EJECTING still fits it after a release. -/
theorem fitsSlot_releasedWindow {r : Slot}
    (hprofile : r.state = .active ∨ r.state = .ejecting → r.profile.isSome = true)
    (k : Nat) {x : Window} (h : x.fitsSlot r = true) : (releasedWindow k x).fitsSlot r = true := by
  cases x with
  | free | staged | opened => exact h
  | closing m refs d ticket =>
    simp only [Window.fitsSlot, Bool.and_eq_true, Bool.or_eq_true, beq_iff_eq, decide_eq_true_eq] at h
    obtain ⟨hstate, hrefs⟩ := h
    by_cases hlast : 0 < k ∧ refs ≤ k
    · simp only [releasedWindow, if_pos hlast]
      cases d with
      | toStaged => exact hprofile hstate
      | toFree => rfl
    · simp only [releasedWindow, if_neg hlast, Window.fitsSlot, Bool.and_eq_true, Bool.or_eq_true, beq_iff_eq,
        decide_eq_true_eq]
      exact ⟨hstate, by omega⟩

theorem SlotFits.profile_held {r : Slot} {l : Link} (h : SlotFits r l) :
    r.state = .active ∨ r.state = .ejecting → r.profile.isSome = true := by
  have hprofile := h.power.profile
  rintro (hstate | hstate)
  · rwa [hstate] at hprofile
  · rwa [hstate] at hprofile

/-! ### The records besides (R18) -/

section

variable (ending : Ending) (windows : Tbl 64 Window) (l : List WinIx) (s : State)

@[simp] theorem windowsEnded_slots : (windowsEnded ending windows s).slots = s.slots := rfl

@[simp] theorem windowsEnded_links : (windowsEnded ending windows s).links = s.links := rfl

@[simp] theorem windowsEnded_windows : (windowsEnded ending windows s).windows = windows := rfl

@[simp] theorem windowsEnded_hostTable : (windowsEnded ending windows s).hostTable = s.hostTable := rfl

@[simp] theorem windowsEnded_config : (windowsEnded ending windows s).config = s.config := rfl

@[simp] theorem windowsEnded_identQueue : (windowsEnded ending windows s).identQueue = s.identQueue := rfl

@[simp] theorem windowsEnded_ident : (windowsEnded ending windows s).ident = s.ident := rfl

@[simp] theorem windowsEnded_partReset : (windowsEnded ending windows s).partReset = s.partReset := rfl

@[simp] theorem windowsEnded_tickets :
    (windowsEnded ending windows s).tickets = s.tickets.each fun _ => Ticket.ended ending := rfl

end

end

end Sys2Proof.Machine

/-! PROOFS. The invariant through the end of requests (R99, R100) and the accesses of the host. -/

namespace Sys2Proof.Machine

-- One proof at a time: side by side they take more threads than the check's memory limit allows.
set_option Elab.async false

open Sys2Proof.Expected

section

variable {s t : State} {n : SlotIx}

/-! ### References that an engine gives up (R18) -/

theorem RefsHeld.count_eq_refsOf (h : RefsHeld s) (n : SlotIx) (w : WinIx) :
    (s.links.get n).heldWindows.count w = (s.windows.get w).refsOf n := h n w

/-- A window of one slot is no window of another. -/
theorem Window.ofSlot_unique {x : Window} {i j : SlotIx} (hi : x.ofSlot i = true) (hj : x.ofSlot j = true) : i = j := by
  obtain ⟨m, hm, rfl⟩ := Window.ofSlot_iff.1 hi
  obtain ⟨m', hm', rfl⟩ := Window.ofSlot_iff.1 hj
  rw [hm] at hm'
  rw [Option.some.inj hm']

theorem Window.refsOf_other {x : Window} {j : SlotIx} (hj : j ≠ n) (hof : x.ofSlot j = true) : x.refsOf n = 0 :=
  if_neg fun hn => hj (Window.ofSlot_unique hof hn)

/-- An engine gives up requests, with the references they hold, and their host tags are freed. -/
theorem Sound.engineReleases {l : Link} {gone : List Owed} (h : Sound s) (hslots : t.slots = s.slots)
    (hlinks : t.links = s.links.put n l) (hwindows : t.windows = releasedWindows (gone.map Owed.window) s.windows)
    (htickets : t.tickets = s.tickets.each fun _ => Ticket.ended (closeEnding s.windows t.windows))
    (hconfig : t.config = s.config) (hqueue : t.identQueue = s.identQueue) (hident : t.ident = s.ident)
    (hfits : SlotFits (s.slots.get n) l) (howed : (l.owed ++ gone).Perm (s.links.get n).owed)
    (htable : ∀ tag, t.hostTable.get tag = (s.hostTable.get tag && !(answerTags gone).contains tag)) : Sound t := by
  have hget (w : WinIx) : t.windows.get w = releasedWindow ((gone.map Owed.window).count w) (s.windows.get w) := by
    rw [hwindows, releasedWindows, Tbl.get_each]
  have hcount (w : WinIx) : (gone.map Owed.window).count w ≤ (s.windows.get w).refsOf n := by
    have hperm := (howed.map Owed.window).count_eq w
    rw [List.map_append, List.count_append] at hperm
    rw [← h.refs.count_eq_refsOf n w]
    unfold Link.heldWindows
    omega
  have hput : t.slots = s.slots.put n (s.slots.get n) := hslots.trans (put_get_self _ _).symm
  refine h.released hput hlinks hconfig hfits howed htable (fun w => ?_) (fun w j hj hof => ?_) (fun w hof => ?_)
    (fun w => ?_) le_rfl (h.ident.put hput hqueue hident Iff.rfl Iff.rfl)
    (h.closeTickets.windowsMoved (fun w => ?_) htickets)
    fun j => (h.slotTickets j).closeEnded (by rw [hslots]) htickets
  · rw [hget]
    exact mapping_releasedWindow _ _
  · have hzero : (gone.map Owed.window).count w = 0 :=
      Nat.eq_zero_of_le_zero (Window.refsOf_other hj hof ▸ hcount w)
    rw [hget, hzero, releasedWindow_zero]
  · rw [hget] at hof ⊢
    exact fitsSlot_releasedWindow (h.slot n).profile_held _
      (h.fits w n (Window.ofSlot_of_mapping (mapping_releasedWindow _ _) hof))
  · have hle := hcount w
    have hsub := refsOf_releasedWindow n ((gone.map Owed.window).count w) (s.windows.get w)
    rw [← hget] at hsub
    unfold Window.refsOf at hle hsub
    omega
  · rw [hget]
    exact closesTo_releasedWindow _ _

/-! ### One request ends (R99, R100) -/

/-- An engine whose tag no longer owes keeps its limits. -/
theorem SlotFits.tagEnds {r : Slot} {l : Link} (h : SlotFits r l) {k : TagIx} {q : TagRecord}
    (htag : l.tags.get k = .inFlight q) (y : LinkTag) : SlotFits r (l.putTag k y) where
  link := h.link
  power := h.power
  timers := ⟨h.timers.settle, h.timers.power, h.timers.filter, h.timers.quiesce, h.timers.training, h.timers.tagsHeld,
    h.timers.tagsRange⟩
  profile := h.profile
  capacity := h.capacity
  tags := by
    have htags := l.tagsInUse_putTag k y
    have hle := h.tags
    rw [htag, if_neg (by simp)] at htags
    have hone : (if y = .free then 0 else 1) ≤ 1 := by split <;> omega
    omega
  idle hup := by
    have hfree := ((Link.idle_iff _).1 (h.idle hup)).2 k
    rw [htag] at hfree
    cases hfree

/-- What an IN_FLIGHT tag owes. -/
def TagRecord.owed (q : TagRecord) : Owed :=
  { window := q.window, hostTag := q.hostTag, orphaned := q.orphaned, addr := q.addr }

theorem LinkTag.owed_inFlight (q : TagRecord) : (LinkTag.inFlight q).owed = some q.owed := rfl

theorem Sound.requestEnds {k : TagIx} {q : TagRecord} {y : LinkTag} (h : Sound s)
    (htag : (s.links.get n).tags.get k = .inFlight q) (hy : y.owed = none) (hslots : t.slots = s.slots)
    (hlinks : t.links = s.links.put n ((s.links.get n).putTag k y))
    (hwindows : t.windows = releasedWindows [q.window] s.windows)
    (htickets : t.tickets = s.tickets.each fun _ => Ticket.ended (closeEnding s.windows t.windows))
    (hconfig : t.config = s.config) (hqueue : t.identQueue = s.identQueue) (hident : t.ident = s.ident)
    (htable : ∀ tag, t.hostTable.get tag = (s.hostTable.get tag && !(answerTags [q.owed]).contains tag)) : Sound t := by
  refine h.engineReleases (gone := [q.owed]) hslots hlinks hwindows htickets hconfig hqueue hident
    ((h.slot n).tagEnds htag y) ?_ htable
  have hperm := (s.links.get n).owed_putTag k y
  rw [htag, LinkTag.owed_inFlight, hy, Option.toList_none, List.append_nil] at hperm
  exact hperm

section

variable {k : TagIx} {q : TagRecord} {y : LinkTag}

section

variable (n : SlotIx) (k : TagIx) (w : WinIx) (y : LinkTag) (s : State)

theorem requestReleased_eq :
    requestReleased n k w y s =
      (windowsEnded (closeEnding s.windows (releasedWindows [w] s.windows)) (releasedWindows [w] s.windows)
        s.quiet).putLink
        n ((s.links.get n).putTag k y) := rfl

@[simp] theorem requestReleased_slots : (requestReleased n k w y s).slots = s.slots := by
  simp [requestReleased_eq]

@[simp] theorem requestReleased_links : (requestReleased n k w y s).links =
    s.links.put n ((s.links.get n).putTag k y) := by
  simp [requestReleased_eq]

@[simp] theorem requestReleased_windows : (requestReleased n k w y s).windows = releasedWindows [w] s.windows := by
  simp [requestReleased_eq]

@[simp] theorem requestReleased_hostTable : (requestReleased n k w y s).hostTable = s.hostTable := by
  simp [requestReleased_eq]

@[simp] theorem requestReleased_config : (requestReleased n k w y s).config = s.config := by
  simp [requestReleased_eq]

@[simp] theorem requestReleased_identQueue : (requestReleased n k w y s).identQueue = s.identQueue := by
  simp [requestReleased_eq]

@[simp] theorem requestReleased_ident : (requestReleased n k w y s).ident = s.ident := by
  simp [requestReleased_eq]

@[simp] theorem requestReleased_partReset : (requestReleased n k w y s).partReset = s.partReset := by
  simp [requestReleased_eq]

@[simp] theorem requestReleased_tickets : (requestReleased n k w y s).tickets =
    s.tickets.each fun _ => Ticket.ended (closeEnding s.windows (releasedWindows [w] s.windows)) := by
  simp [requestReleased_eq]

end

/-- A request that is owed no answer ends. -/
theorem Sound.requestReleased (h : Sound s) (htag : (s.links.get n).tags.get k = .inFlight q) (hy : y.owed = none)
    (hnone : answerTags [q.owed] = []) : Sound (requestReleased n k q.window y s) := by
  refine h.requestEnds (k := k) htag hy (by simp) (by simp) (by simp) (by simp) (by simp) (by simp) (by simp)
    fun tag => ?_
  simp [hnone]

/-- A request ends and its host tag is answered. -/
theorem Sound.requestAnswered {tag : HostTag} (h : Sound s) (htag : (s.links.get n).tags.get k = .inFlight q)
    (hy : y.owed = none) (hanswer : answerTags [q.owed] = [tag]) (code : RespCode) (data : Option Word) :
    Sound ((Machine.requestReleased n k q.window y s).answer tag code data) := by
  refine h.requestEnds (k := k) htag hy (by simp) (by simp) (by simp) (by simp) (by simp) (by simp) (by simp)
    fun other => ?_
  rw [hanswer, State.answer_hostTable, Tbl.get_put]
  split
  · rename_i heq
    simp [heq]
  · rename_i hne
    simp [hne]

theorem Sound.recordPosted (h : Sound s) (n : SlotIx) (w : WinIx) (addr : Word) (cause : PostedCause) :
    Sound (s.recordPosted n w addr cause) := by
  rw [State.recordPosted_closed]
  exact (h.putTimers (n := n) (posted := recorded (s.slots.get n).posted w addr cause) (h.slot n).timers.filter
    rfl).of_records rfl rfl rfl rfl rfl rfl rfl rfl

theorem TagRecord.answerTags_orphaned (horphan : q.orphaned = true) :
    answerTags [q.owed] = [] := by
  simp [answerTags, TagRecord.owed, horphan]

theorem TagRecord.answerTags_posted (hhost : q.hostTag = none) : answerTags [q.owed] = [] := by
  simp [answerTags, TagRecord.owed, hhost]

theorem TagRecord.answerTags_awaited {tag : HostTag} (hhost : q.hostTag = some tag) (horphan : ¬q.orphaned = true) :
    answerTags [q.owed] = [tag] := by
  simp [answerTags, TagRecord.owed, horphan, hhost]

theorem Sound.settleRequest (h : Sound s) (htag : (s.links.get n).tags.get k = .inFlight q) (hy : y.owed = none)
    (status : CplStatus) (data : List Byte) :
    Sound ((Machine.requestReleased n k q.window y s).settleRequest n q status data) := by
  unfold State.settleRequest
  split
  · rename_i tag hhost
    split
    · rename_i horphan
      exact h.requestReleased htag hy (TagRecord.answerTags_orphaned horphan)
    · rename_i horphan
      exact h.requestAnswered htag hy (TagRecord.answerTags_awaited hhost horphan) _ _
  · rename_i hhost
    have hreleased := h.requestReleased htag hy (TagRecord.answerTags_posted hhost)
    split
    · exact hreleased
    · exact hreleased.recordPosted _ _ _ _

theorem Sound.settleTimeout (h : Sound s) (htag : (s.links.get n).tags.get k = .inFlight q) (hy : y.owed = none) :
    Sound ((Machine.requestReleased n k q.window y s).settleTimeout n q) := by
  unfold State.settleTimeout
  split
  · rename_i tag hhost
    split
    · rename_i horphan
      exact h.requestReleased htag hy (TagRecord.answerTags_orphaned horphan)
    · rename_i horphan
      exact h.requestAnswered htag hy (TagRecord.answerTags_awaited hhost horphan) _ _
  · rename_i hhost
    exact (h.requestReleased htag hy (TagRecord.answerTags_posted hhost)).recordPosted _ _ _ _

theorem Sound.finishRequest (h : Sound s) (htag : (s.links.get n).tags.get k = .inFlight q) (status : CplStatus)
    (data : List Byte) : Sound (s.quiet.finishRequest n k q status data) := by
  rw [State.finishRequest, State.quiet_links, State.releaseRef_putLink h.closeTickets]
  exact (h.settleRequest htag rfl status data).testQuiesce n

theorem Sound.requestTimesOut (h : Sound s) (n : SlotIx) (k : TagIx) : Sound (s.quiet.requestTimesOut n k) := by
  unfold State.requestTimesOut
  rw [State.quiet_links]
  split
  · rename_i q htag
    rw [State.releaseRef_putLink h.closeTickets]
    exact (h.settleTimeout htag rfl).testQuiesce n
  · exact h.of_records rfl rfl rfl rfl rfl rfl rfl rfl

end

end

end Sys2Proof.Machine

/-! PROOFS. The invariant through teardowns: slot faults, aborted ejections, the removal of a module. -/

namespace Sys2Proof.Machine

-- One proof at a time: side by side they take more threads than the check's memory limit allows.
set_option Elab.async false

open Sys2Proof.Expected

section

variable {s t : State} {n : SlotIx}

/-! ### The windows of a slot withdrawn (R22, R23) -/

/-- The windows of slot `n` are withdrawn by `f`: none of them holds a reference, and those of the others stay. -/
structure Withdrawal (n : SlotIx) (f : Window → Window) : Prop where
  mapping : ∀ x, (f x).mapping = none ∨ (f x).mapping = x.mapping
  other : ∀ x j, j ≠ n → x.ofSlot j = true → f x = x
  refs : ∀ x, (f x).refsOf n = 0
  closes : ∀ x, closesTo x (f x)

theorem refsOf_of_not_ofSlot {x : Window} (h : ¬x.ofSlot n = true) : x.refsOf n = 0 := if_neg h

theorem drainedWindow_of_not_ofSlot {x : Window} (h : ¬x.ofSlot n = true) : drainedWindow n x = x := by
  cases x with
  | free | staged => rfl
  | opened m refs =>
    have hslot : ¬m.slot = n := by simpa [Window.ofSlot, Window.mapping] using h
    exact if_neg hslot
  | closing m refs d ticket =>
    have hslot : ¬m.slot = n := by simpa [Window.ofSlot, Window.mapping] using h
    cases d with
    | toStaged => exact if_neg hslot
    | toFree => exact if_neg hslot

/-- A window of the slot is STAGED or FREE once its references are released. -/
theorem drainedWindow_of_ofSlot {x : Window} (h : x.ofSlot n = true) :
    (∃ m, x.mapping = some m ∧ drainedWindow n x = .staged m) ∨ drainedWindow n x = .free := by
  cases x with
  | free => cases h
  | staged m => exact .inl ⟨m, rfl, rfl⟩
  | opened m refs =>
    have hslot : m.slot = n := by simpa [Window.ofSlot, Window.mapping] using h
    exact .inl ⟨m, rfl, if_pos hslot⟩
  | closing m refs d ticket =>
    have hslot : m.slot = n := by simpa [Window.ofSlot, Window.mapping] using h
    cases d with
    | toStaged => exact .inl ⟨m, rfl, if_pos hslot⟩
    | toFree => exact .inr (if_pos hslot)

/-- A window that becomes STAGED or FREE ends its close ticket. -/
theorem closesTo_ended {x y : Window} (hy : (∃ m, y = .staged m) ∨ y = .free) : closesTo x y := by
  have hnone : y.closeTicket = none := by
    rcases hy with ⟨m, rfl⟩ | rfl
    · rfl
    · rfl
  cases x with
  | free | staged | opened => exact .inr (.inr ⟨hnone, rfl⟩)
  | closing m refs d ticket =>
    cases ticket with
    | none => exact .inr (.inr ⟨hnone, rfl⟩)
    | some id =>
      refine .inr (.inl ⟨?_, hnone⟩)
      rcases hy with ⟨m', rfl⟩ | rfl
      · rfl
      · rfl

theorem withdrawal_drained (n : SlotIx) : Withdrawal n (drainedWindow n) := by
  refine ⟨fun x => ?_, fun x j hj hof => ?_, fun x => ?_, fun x => ?_⟩
  · by_cases h : x.ofSlot n = true
    · rcases drainedWindow_of_ofSlot h with ⟨m, hm, heq⟩ | heq
      · exact .inr (by rw [heq, hm]; rfl)
      · exact .inl (by rw [heq]; rfl)
    · exact .inr (by rw [drainedWindow_of_not_ofSlot h])
  · exact drainedWindow_of_not_ofSlot fun h => hj (Window.ofSlot_unique hof h)
  · by_cases h : x.ofSlot n = true
    · rcases drainedWindow_of_ofSlot h with ⟨m, -, heq⟩ | heq
      · exact refsOf_eq_zero (by rw [heq]; rfl) n
      · exact refsOf_eq_zero (by rw [heq]; rfl) n
    · rw [drainedWindow_of_not_ofSlot h]
      exact refsOf_of_not_ofSlot h
  · by_cases h : x.ofSlot n = true
    · exact closesTo_ended ((drainedWindow_of_ofSlot h).imp_left fun ⟨m, _, heq⟩ => ⟨m, heq⟩)
    · rw [drainedWindow_of_not_ofSlot h]
      exact closesTo_refl x

theorem removedWindow_not_ofSlot (n : SlotIx) (x : Window) : ¬(removedWindow n x).ofSlot n = true := by
  unfold removedWindow
  split
  · exact Bool.noConfusion
  · assumption

theorem withdrawal_removed (n : SlotIx) : Withdrawal n (removedWindow n) := by
  refine ⟨fun x => ?_, fun x j hj hof => ?_, fun x => refsOf_of_not_ofSlot (removedWindow_not_ofSlot n x), fun x => ?_⟩
  · unfold removedWindow
    split
    · exact .inl rfl
    · exact .inr rfl
  · exact if_neg fun h => hj (Window.ofSlot_unique hof h)
  · unfold removedWindow
    split
    · exact closesTo_ended (.inr rfl)
    · exact closesTo_refl x

/-! ### A teardown -/

/-- A step that withdraws the work of a slot, moves the slot and ends its OPEN ticket. -/
theorem Sound.tornDown {f : Window → Window} {r : Slot} {outcome : TicketOutcome} {detail : Option TicketDetail}
    (h : Sound s) (hf : Withdrawal n f) (hslots : t.slots = s.slots.put n r)
    (hlinks : t.links = s.links.put n Link.reset)
    (hwindows : t.windows = s.windows.each fun _ => f)
    (htable : t.hostTable = s.hostTable.each fun t b => b && !(s.links.get n).owedTags.contains t)
    (htickets : t.tickets = (s.tickets.each fun _ => Ticket.ended (closeEnding s.windows t.windows)).each fun _ =>
      Ticket.ended (slotEnding n outcome detail))
    (hconfig : t.config = s.config) (hfits : SlotFits r Link.reset)
    (hkept : ∀ x, x.fitsSlot (s.slots.get n) = true → (f x).ofSlot n = true → (f x).fitsSlot r = true)
    (hunits : r.committedUnits.toNat ≤ (s.slots.get n).committedUnits.toNat) (hstate : r.state.ticketless)
    (hident : IdentHeld t) : Sound t := by
  have hget (w : WinIx) : t.windows.get w = f (s.windows.get w) := by rw [hwindows, Tbl.get_each]
  have hclose : CloseTicketsHeld (windowsEnded (closeEnding s.windows t.windows) t.windows s) :=
    h.closeTickets.windowsMoved (fun w => by rw [windowsEnded_windows, hget]; exact hf.closes _) rfl
  have hslotTickets (j : SlotIx) : SlotTickets (windowsEnded (closeEnding s.windows t.windows) t.windows s) j :=
    (h.slotTickets j).closeEnded rfl rfl
  refine h.released (gone := (s.links.get n).owed) hslots hlinks hconfig hfits ?_ (fun tag => ?_) (fun w => ?_)
    (fun w j hj hof => ?_) (fun w hof => ?_) (fun w => ?_) hunits hident (hclose.slotEnded rfl htickets)
    (.ended hslotTickets ?_ (fun j hj => ?_) htickets)
  · rw [Link.owed_of_idle Link.idle_reset]
    exact .refl _
  · rw [htable, Tbl.get_each]
    rfl
  · rw [hget]
    exact hf.mapping _
  · rw [hget]
    exact hf.other _ j hj hof
  · rw [hget] at hof ⊢
    exact hkept _ (h.fits w n (Window.ofSlot_of_mapping (hf.mapping _) hof)) hof
  · have hzero := hf.refs (s.windows.get w)
    rw [← hget] at hzero
    unfold Window.refsOf at hzero
    rw [hzero, Nat.zero_add]
    exact h.refs n w
  · rw [hslots, Tbl.get_put, if_pos rfl]
    exact hstate
  · rw [hslots, Tbl.get_put, if_neg hj, windowsEnded_slots]

/-! ### Slot faults and aborted ejections (R63, R70) -/

/-- A slot that keeps its profile keeps its withdrawn windows. -/
theorem fitsSlot_drainedWindow {r r' : Slot}
    (hprofile : r.state = .active ∨ r.state = .ejecting → r.profile.isSome = true)
    (hkeeps : r'.profile = r.profile) {x : Window} (hx : x.fitsSlot r = true)
    (hof : (drainedWindow n x).ofSlot n = true) :
    (drainedWindow n x).fitsSlot r' = true := by
  have hxof := Window.ofSlot_of_mapping ((withdrawal_drained n).mapping x) hof
  rcases drainedWindow_of_ofSlot hxof with ⟨m, hm, heq⟩ | heq
  · rw [heq]
    simp only [Window.fitsSlot, hkeeps]
    cases x with
    | free => cases hm
    | staged m => exact hx
    | opened m refs => exact hprofile (.inl (beq_iff_eq.1 hx))
    | closing m refs d ticket =>
      simp only [Window.fitsSlot, Bool.and_eq_true, Bool.or_eq_true, beq_iff_eq] at hx
      exact hprofile hx.1
  · rw [heq]
    rfl

/-- The states in which a slot faults, or its ejection is aborted. -/
theorem SlotState.linked_facts {x : SlotState} (h : x.powered = true) :
    x ≠ .settling ∧ x ≠ .queued ∧ x ≠ .identifying := by
  cases x <;> simp [SlotState.powered] at h ⊢

/-- A slot loses its power in a teardown that drains its windows. -/
theorem Sound.powerLost {state : SlotState} {outcome : TicketOutcome} {detail : Option TicketDetail} {causes : Byte}
    (h : Sound s) (hpowered : (s.slots.get n).state.powered = true)
    (hrest : state = .identified ∨ ∃ cause, state = .faulted cause) :
    Sound (withOutcomes (slotEnding n outcome detail) (withCauses ⟨8 + n.val, by omega⟩ causes
      { withdrawn n .slotFault (drainedWindow n) s with
        slots := s.slots.put n { faultedSlot s n .linkLost with state } })) := by
  obtain ⟨hsettling, hqueued, hidentifying⟩ := SlotState.linked_facts hpowered
  have hprofile : (s.slots.get n).profile.isSome = true := by
    have hheld := (h.slot n).power.profile
    cases hstate : (s.slots.get n).state <;> simp_all [SlotState.powered, SlotState.profileFits]
  have hnew : state ≠ .queued ∧ state ≠ .identifying ∧ state.ticketless := by
    rcases hrest with rfl | ⟨cause, rfl⟩
    · simp [SlotState.ticketless]
    · simp [SlotState.ticketless]
  obtain ⟨hqueued', hidentifying', hticketless⟩ := hnew
  refine h.tornDown (r := { faultedSlot s n .linkLost with state }) (outcome := outcome) (detail := detail)
    (withdrawal_drained n) ?_ ?_ ?_ ?_ ?_ ?_
    ((h.slot n).powerOff (hrest.imp_left fun heq => ⟨heq, hprofile⟩) hsettling rfl Link.idle_reset rfl)
    (fun x hx hof =>
      fitsSlot_drainedWindow (r' := { faultedSlot s n .linkLost with state }) (h.slot n).profile_held rfl hx hof)
      (Nat.zero_le _) hticketless ?_
  · simp [withOutcomes_eq, withCauses]
  · simp [withOutcomes_eq, withCauses]
  · simp [withOutcomes_eq, withCauses, withdrawn]
  · simp [withOutcomes_eq, withCauses, withdrawn]
  · simp [withOutcomes_eq, withCauses, withdrawn]
  · simp [withOutcomes_eq, withCauses, withdrawn]
  · refine h.ident.put (r := { faultedSlot s n .linkLost with state }) ?_ ?_ ?_ (iff_of_false hqueued' hqueued)
      (iff_of_false hidentifying' hidentifying)
    · simp [withOutcomes_eq, withCauses, withdrawn]
    · simp [withOutcomes_eq, withCauses, withdrawn]
    · simp [withOutcomes_eq, withCauses, withdrawn]

theorem Safe.faultSlot_sound (h : Safe s) (hpowered : (s.slots.get n).state.powered = true) (cause : FaultCause) :
    Sound (s.quiet.faultSlot n cause) := by
  rw [State.faultSlot_eq h]
  exact h.sound.powerLost hpowered (.inr ⟨cause, rfl⟩)

theorem Safe.abortEjection_sound (h : Safe s) (hstate : (s.slots.get n).state = .ejecting) :
    Sound (s.quiet.abortEjection n) := by
  rw [State.abortEjection_eq h hstate]
  exact h.sound.powerLost (by rw [hstate]; rfl) (.inl rfl)

end

end Sys2Proof.Machine

/-! PROOFS. The invariant through the events that may end in a teardown, and the removal of a module. -/

namespace Sys2Proof.Machine

-- One proof at a time: side by side they take more threads than the check's memory limit allows.
set_option Elab.async false

open Sys2Proof.Expected

section

variable {s t : State}

theorem Sound.quiet (h : Sound s) : Sound s.quiet := h.of_records rfl rfl rfl rfl rfl rfl rfl rfl

theorem Safe.quiet (h : Safe s) (hrun : s.partReset = false) : Safe s.quiet :=
  h.of_records hrun rfl rfl rfl rfl rfl rfl rfl rfl

/-! ### Power, training and packets (R58, R59, R94, R95, R99, R101, R107) -/

theorem SlotFits.powered_of_link {r : Slot} {l : Link} (h : SlotFits r l) (hlink : l.state ≠ .down) :
    r.state.powered = true := by
  by_contra hnot
  obtain ⟨-, hlinking, hactive, hejecting⟩ := r.state.powered_eq_false_iff.1 (Bool.eq_false_iff.2 hnot)
  exact hlink (h.down hlinking hactive hejecting).1

theorem Safe.powered_of_open (h : Safe s) {n : SlotIx} (hopen : (s.links.get n).state.isOpen = true) :
    (s.slots.get n).state.powered = true :=
  (h.sound.slot n).powered_of_link fun hdown => by
    rw [hdown] at hopen
    cases hopen

theorem Slot.powered_of_losesPower {r : Slot} (h : r.losesPower = true) : r.state.powered = true := by
  unfold Slot.losesPower at h
  cases hstate : r.state <;> simp_all [SlotState.powered]

theorem Safe.powerGoodFalls_sound (h : Safe s) (n : SlotIx) : Sound (s.quiet.powerGoodFalls n) := by
  unfold State.powerGoodFalls
  split
  · rename_i hloses
    exact h.faultSlot_sound (Slot.powered_of_losesPower hloses) _
  · exact h.sound.quiet

theorem Safe.powerTimesOut_sound (h : Safe s) (n : SlotIx) : Sound (s.quiet.powerTimesOut n) := by
  unfold State.powerTimesOut
  split
  · rename_i hstate _
    rw [State.quiet_slots] at hstate
    exact h.faultSlot_sound (by rw [hstate]; rfl) _
  · exact h.sound.quiet

theorem Safe.trainingTimesOut_sound (h : Safe s) (n : SlotIx) : Sound (s.quiet.trainingTimesOut n) := by
  unfold State.trainingTimesOut
  split
  · rename_i htraining
    obtain ⟨hlink, -⟩ := htraining
    rw [State.quiet_links] at hlink
    exact h.faultSlot_sound ((h.sound.slot n).powered_of_link (by simp [hlink])) _
  · exact h.sound.quiet

theorem Safe.takeReady_sound (h : Safe s) (n : SlotIx) (count : Nat) : Sound (s.quiet.takeReady n count) := by
  unfold State.takeReady
  split
  · rename_i hlink
    split
    · rename_i hcount
      exact h.sound.quiet.admitted n hcount hlink
    · rw [State.quiet_links] at hlink
      exact h.faultSlot_sound ((h.sound.slot n).powered_of_link (by simp [hlink])) _
  · exact h.sound.quiet

theorem Safe.takeUnknown_sound (h : Safe s) (n : SlotIx) : Sound (s.quiet.takeUnknown n) := by
  unfold State.takeUnknown
  split
  · rename_i hopen
    exact h.faultSlot_sound (h.powered_of_open hopen) _
  · exact h.sound.quiet

theorem Safe.losesLock_sound (h : Safe s) (n : SlotIx) : Sound (s.quiet.losesLock n) := by
  unfold State.losesLock
  split
  · rename_i _ hstate
    rw [State.quiet_slots] at hstate
    exact h.faultSlot_sound (by rw [hstate]; rfl) _
  · rename_i _ hstate
    exact h.abortEjection_sound hstate
  · rename_i _ hstate
    exact h.abortEjection_sound hstate
  · exact h.sound.quiet

theorem Safe.takeCompletion_sound (h : Safe s) (n : SlotIx) (k : TagIx) (status : CplStatus) (data : List Byte) :
    Sound (s.quiet.takeCompletion n k status data) := by
  unfold State.takeCompletion
  split
  · rename_i hopen
    have hfault := h.faultSlot_sound (h.powered_of_open hopen) .linkProtocol
    split
    · exact hfault
    · rename_i q htag
      exact h.sound.quiet.freeStale htag
    · rename_i q htag
      split
      · exact h.sound.finishRequest htag status data
      · exact hfault
  · exact h.sound.quiet

/-! ### The end of an ejection (R69) and the module's own packets (R104, R105) -/

theorem Safe.takeQuiesced_sound (h : Safe s) (n : SlotIx) : Sound (s.takeQuiesced n) := by
  unfold State.takeQuiesced
  split
  · rename_i hlink
    exact h.endEjection_sound hlink _
  · exact h.sound

theorem Safe.quiesceTimesOut_sound (h : Safe s) (n : SlotIx) : Sound (s.quiesceTimesOut n) := by
  unfold State.quiesceTimesOut
  split
  · rename_i hquiescing
    exact h.endEjection_sound hquiescing.1 _
  · exact h.sound

theorem Sound.raise (h : Sound s) (c : Cause) : Sound (s.raise c) := h.of_records rfl rfl rfl rfl rfl rfl rfl rfl

theorem Sound.takeAttention (h : Sound s) (n : SlotIx) (causes : Byte) : Sound (s.takeAttention n causes) := by
  unfold State.takeAttention
  split
  · exact h.of_records rfl rfl rfl rfl rfl rfl rfl rfl
  · exact h

theorem Sound.takeEjectRequest (h : Sound s) (n : SlotIx) : Sound (s.takeEjectRequest n) := by
  unfold State.takeEjectRequest
  split
  · exact h.raise _
  · exact h

/-! ### The removal of a module (R53) -/

section

variable (n : SlotIx) (s : State)

@[simp] theorem moduleRemoved_slots : (moduleRemoved n s).slots = s.slots.put n Slot.reset := by
  simp only [moduleRemoved, withOutcomes_eq, withCauses]

@[simp] theorem moduleRemoved_links : (moduleRemoved n s).links = s.links.put n Link.reset := by
  simp only [moduleRemoved, withOutcomes_eq, withCauses, withdrawn_links]

@[simp] theorem moduleRemoved_windows : (moduleRemoved n s).windows = s.windows.each fun _ => removedWindow n := by
  simp only [moduleRemoved, withOutcomes_eq, withCauses, withdrawn]

@[simp] theorem moduleRemoved_hostTable :
    (moduleRemoved n s).hostTable = s.hostTable.each fun t b => b && !(s.links.get n).owedTags.contains t := by
  simp only [moduleRemoved, withOutcomes_eq, withCauses, withdrawn]

@[simp] theorem moduleRemoved_config : (moduleRemoved n s).config = s.config := by
  simp only [moduleRemoved, withOutcomes_eq, withCauses, withdrawn]

@[simp] theorem moduleRemoved_partReset : (moduleRemoved n s).partReset = s.partReset := by
  simp only [moduleRemoved, withOutcomes_eq, withCauses, withdrawn]

theorem moduleRemoved_tickets :
    (moduleRemoved n s).tickets =
      (s.tickets.each fun _ => Ticket.ended (closeEnding s.windows (moduleRemoved n s).windows)).each fun _ =>
        Ticket.ended (slotEnding n .overtaken none) := by
  rw [moduleRemoved_windows]
  simp only [moduleRemoved, withOutcomes_eq, withCauses, withdrawn]

end

/-- The queue and the slot being read without one slot (R75, R77, R86). -/
theorem IdentHeld.gone {n : SlotIx} (h : IdentHeld s) (hslots : t.slots = s.slots.put n Slot.reset)
    (hqueue : t.identQueue = s.identQueue.filter (· != n))
    (hserving : ∀ j, t.ident.serving = some j ↔ s.ident.serving = some j ∧ j ≠ n) (hsound : t.ident.sound = true) :
    IdentHeld t where
  queueOnce := by
    rw [hqueue]
    exact h.queueOnce.filter _
  queueExact j := by
    rw [hqueue, List.mem_filter, h.queueExact j, hslots, Tbl.get_put, bne_iff_ne]
    by_cases hj : j = n
    · simp [hj, Slot.reset]
    · simp [hj]
  reading j := by
    rw [hserving, ← h.reading j, hslots, Tbl.get_put]
    by_cases hj : j = n
    · simp [hj, Slot.reset]
    · simp [hj]
  sound := hsound

/-- A module is gone, with its slot's part in the identification. -/
theorem Sound.moduleGone {n : SlotIx} (h : Sound s) (hslots : t.slots = (moduleRemoved n s).slots)
    (hlinks : t.links = (moduleRemoved n s).links) (hwindows : t.windows = (moduleRemoved n s).windows)
    (htable : t.hostTable = (moduleRemoved n s).hostTable) (htickets : t.tickets = (moduleRemoved n s).tickets)
    (hconfig : t.config = (moduleRemoved n s).config) (hqueue : t.identQueue = s.identQueue.filter (· != n))
    (hserving : ∀ j, t.ident.serving = some j ↔ s.ident.serving = some j ∧ j ≠ n) (hsound : t.ident.sound = true) :
    Sound t := by
  have hput := hslots.trans (moduleRemoved_slots n s)
  refine h.tornDown (outcome := .overtaken) (detail := none) (withdrawal_removed n) hput
    (hlinks.trans (moduleRemoved_links n s))
    (hwindows.trans (moduleRemoved_windows n s)) (htable.trans (moduleRemoved_hostTable n s)) ?_
    (hconfig.trans (moduleRemoved_config n s)) .reset
    (fun x _ hof => absurd hof (removedWindow_not_ofSlot n x)) (Nat.zero_le _) ?_
    (h.ident.gone hput hqueue hserving hsound)
  · rw [htickets, moduleRemoved_tickets, hwindows]
  · simp [SlotState.ticketless, Slot.reset]

/-- A slot that is not QUEUED is not in the queue (R75). -/
theorem IdentHeld.filter_eq {n : SlotIx} (h : IdentHeld s) (hstate : (s.slots.get n).state ≠ .queued) :
    s.identQueue = s.identQueue.filter (· != n) := by
  refine (List.filter_eq_self.2 fun j hj => bne_iff_ne.2 ?_).symm
  rintro rfl
  exact hstate ((h.queueExact j).1 hj)

/-- The read of the slot whose module is gone is abandoned, or over (R86). -/
theorem Sound.readGone {n : SlotIx} (h : Sound s) (hstate : (s.slots.get n).state = .identifying) {c : IdentCtl}
    (hnone : c.serving = none) (hsound : c.sound = true) (o : Outputs) :
    Sound { moduleRemoved n s with ident := c, out := o } := by
  have hserving := (h.ident.reading n).1 hstate
  have hqueue := (moduleRemoved_identQueue n s).trans (h.ident.filter_eq (n := n) (by simp [hstate]))
  refine h.moduleGone (n := n) rfl rfl rfl rfl rfl rfl hqueue (fun j => ?_) hsound
  show c.serving = some j ↔ _
  rw [hnone, hserving]
  exact ⟨fun hj => (nomatch hj), fun ⟨hj, hne⟩ => absurd (Option.some.inj hj).symm hne⟩

/-- A slot that is not IDENTIFYING leaves the controller as it is. -/
theorem IdentHeld.serving_other {n : SlotIx} (h : IdentHeld s) (hstate : (s.slots.get n).state ≠ .identifying)
    (j : SlotIx) : s.ident.serving = some j ↔ s.ident.serving = some j ∧ j ≠ n :=
  ⟨fun hj => ⟨hj, fun hn => hstate ((h.reading n).2 (hn ▸ hj))⟩, And.left⟩

theorem Safe.removeSlot_sound (h : Safe s) (n : SlotIx) (place : LinkPlace) : Sound (s.quiet.removeSlot n place) := by
  rw [State.removeSlot_eq h]
  have hheld := h.sound.ident
  unfold removalTaken
  dsimp only
  split
  · rename_i hstate
    exact h.sound.moduleGone (n := n) rfl rfl rfl rfl rfl rfl rfl
      (by simpa using hheld.serving_other (n := n) (by simp [hstate])) (by simpa using hheld.sound)
  · rename_i r hstate hident
    split
    · rename_i hwithin
      have hsound := hheld.sound
      rw [hident] at hsound
      exact h.sound.readGone hstate (c := .abandoning r) rfl
        (Bool.and_eq_true_iff.2 ⟨hsound, bne_iff_ne.2 hwithin.2⟩) _
    · rw [← State.identIdle_eq]
      exact (h.sound.readGone hstate (c := .idle) rfl rfl _).serveIdent
  · rename_i r micros hstate hident
    rw [← State.identIdle_eq]
    exact (h.sound.readGone hstate (c := .idle) rfl rfl (moduleRemoved n s).out).serveIdent
  · rename_i hqueued hreading hretry
    have hidentifying : (s.slots.get n).state ≠ .identifying := fun hstate => by
      have hserving := (hheld.reading n).1 hstate
      cases hident : s.ident with
      | idle | abandoning =>
        rw [hident] at hserving
        cases hserving
      | reading r => exact hreading r hstate hident
      | retryWait r micros => exact hretry r micros hstate hident
    refine h.sound.moduleGone (n := n) rfl rfl rfl rfl rfl rfl ?_ ?_ ?_
    · exact (moduleRemoved_identQueue n s).trans (hheld.filter_eq hqueued)
    · rw [moduleRemoved_ident]
      exact hheld.serving_other hidentifying
    · rw [moduleRemoved_ident]
      exact hheld.sound

theorem Safe.removalExpires_sound (h : Safe s) (n : SlotIx) (place : LinkPlace) :
    Sound (s.quiet.removalExpires n place) := by
  unfold State.removalExpires
  split
  · exact h.removeSlot_sound n place
  · exact h.sound.quiet

end

end Sys2Proof.Machine

/-! PROOFS. The invariant through the requests of the host. -/

namespace Sys2Proof.Machine

-- One proof at a time: side by side they take more threads than the check's memory limit allows.
set_option Elab.async false

open Sys2Proof.Expected

/-! ### Steps that leave the records of the invariant -/

/-- The records that the invariant speaks of are the same. -/
structure SameRecords (s t : State) : Prop where
  hostTable : t.hostTable = s.hostTable
  windows : t.windows = s.windows
  slots : t.slots = s.slots
  links : t.links = s.links
  identQueue : t.identQueue = s.identQueue
  ident : t.ident = s.ident
  config : t.config = s.config
  tickets : t.tickets = s.tickets

theorem SameRecords.refl (s : State) : SameRecords s s := ⟨rfl, rfl, rfl, rfl, rfl, rfl, rfl, rfl⟩

section

variable {s t u : State} {n : SlotIx}

theorem SameRecords.trans (h : SameRecords s t) (h' : SameRecords t u) : SameRecords s u :=
  ⟨h'.hostTable.trans h.hostTable, h'.windows.trans h.windows, h'.slots.trans h.slots, h'.links.trans h.links,
    h'.identQueue.trans h.identQueue, h'.ident.trans h.ident, h'.config.trans h.config, h'.tickets.trans h.tickets⟩

theorem Sound.same (h : Sound s) (hsame : SameRecords s t) : Sound t :=
  h.of_records hsame.hostTable hsame.windows hsame.slots hsame.links hsame.identQueue hsame.ident hsame.config
    hsame.tickets

theorem SameRecords.raise (s : State) (c : Cause) : SameRecords s (s.raise c) :=
  ⟨rfl, rfl, rfl, rfl, rfl, rfl, rfl, rfl⟩

theorem SameRecords.putEngine (s : State) (e : Engine) : SameRecords s (s.putEngine e) :=
  ⟨rfl, rfl, rfl, rfl, rfl, rfl, rfl, rfl⟩

theorem SameRecords.putLine (s : State) (l : LineIx) (set : Byte) : SameRecords s (s.putLine l set) :=
  ⟨rfl, rfl, rfl, rfl, rfl, rfl, rfl, rfl⟩

theorem SameRecords.complete (s : State) (code : ResultCode) (results : Tbl 4 Word) :
    SameRecords s (s.complete code results) := ⟨rfl, rfl, rfl, rfl, rfl, rfl, rfl, rfl⟩

/-! ### The words of the control block (R151) -/

theorem SameRecords.takeAck (s : State) (l : LineIx) : SameRecords s (s.takeAck l) := by
  unfold State.takeAck
  split
  · exact .refl s
  · exact ⟨rfl, rfl, rfl, rfl, rfl, rfl, rfl, rfl⟩

theorem SameRecords.takeEos (s : State) (l : LineIx) : SameRecords s (s.takeEos l) := by
  unfold State.takeEos
  split
  · exact .raise s _
  · exact .putLine s _ _

theorem SameRecords.writeCode (s : State) (code : Word) : SameRecords s (s.writeCode code) := by
  unfold State.writeCode
  split
  · exact (SameRecords.putEngine s _).trans (.raise _ _)
  · exact .putEngine s _

theorem SameRecords.writeWord {data : Word} {b : BlockWord} (h : s.writeWord data b = some t) : SameRecords s t := by
  cases b with
  | operand k => cases h; exact .putEngine s _
  | commandCode => cases h; exact .writeCode s _
  | eos l => cases h; exact .takeEos s l
  | _ => cases h

theorem SameRecords.readWord {b : BlockWord} {v : Word} (h : s.readWord b = some (v, t)) : SameRecords s t := by
  cases b with
  | commandCode => cases h
  | commandStatus => cases h; exact .putEngine s _
  | ack l => cases h; exact .takeAck s l
  | _ => cases h; exact .refl s

/-! ### Requests answered in the step of their arrival (R148, R149) -/

/-- A free host tag that is taken and answered at once is free again. -/
theorem Sound.answeredAtOnce {tag : HostTag} (h : Sound s) (hfree : s.hostTable.get tag = false)
    (hsame : SameRecords (s.putHostTag tag true) t) (code : RespCode) (data : Option Word) :
    Sound (t.answer tag code data) := by
  refine h.of_records ?_ hsame.windows hsame.slots hsame.links hsame.identQueue hsame.ident hsame.config hsame.tickets
  rw [State.answer_hostTable, hsame.hostTable, State.putHostTag_hostTable, put_put_same, ← hfree, put_get_self]

theorem Sound.controlAccess {r : HostRequest} (h : Sound s) (hfree : s.hostTable.get r.tag = false) (offset : Nat) :
    Sound ((s.putHostTag r.tag true).controlAccess r offset) := by
  have hrefl := SameRecords.refl (s.putHostTag r.tag true)
  unfold State.controlAccess
  split
  · exact h.answeredAtOnce hfree hrefl _ _
  · split
    · split
      · exact h.answeredAtOnce hfree hrefl _ _
      · rename_i hread
        exact h.answeredAtOnce hfree (.readWord hread) _ _
    · split
      · exact h.answeredAtOnce hfree hrefl _ _
      · rename_i hwrite
        exact h.answeredAtOnce hfree (.writeWord hwrite) _ _

/-! ### An accepted access (R34, R35) -/

/-- The tickets agree with the windows where neither the close tickets nor the tickets have moved. -/
theorem CloseTicketsHeld.kept (h : CloseTicketsHeld s)
    (hwindows : ∀ w, (t.windows.get w).closeTicket = (s.windows.get w).closeTicket) (htickets : t.tickets = s.tickets) :
    CloseTicketsHeld t where
  open_of_field w id hid := by
    rw [htickets]
    exact h.open_of_field w id ((hwindows w).symm.trans hid)
  field_of_open w k hbody := by
    rw [htickets] at hbody ⊢
    exact (hwindows w).trans (h.field_of_open w k hbody)

/-- The answers owed after an engine owes one more. -/
theorem HostTagsHeld.taken {l : Link} {o : Owed} (h : HostTagsHeld s) (hlinks : t.links = s.links.put n l)
    (howed : l.owed = (s.links.get n).owed ++ [o])
    (htable : ∀ tag, (if t.hostTable.get tag then 1 else 0) =
      (if s.hostTable.get tag then 1 else 0) + (answerTags [o]).count tag) : HostTagsHeld t := by
  intro tag
  have hsum := sum_put (fun l => l.owedTags.count tag) s.links n l
  have hold := h tag
  have hlink : l.owedTags.count tag = (s.links.get n).owedTags.count tag + (answerTags [o]).count tag := by
    unfold Link.owedTags
    rw [howed, List.filterMap_append, List.count_append]
    rfl
  rw [State.count_owedTags] at hold
  rw [State.count_owedTags, hlinks, htable tag]
  omega

/-- An engine takes one more entry for an OPEN window of its slot. -/
theorem Sound.entryQueued {w : WinIx} {m : Mapping} {refs : Nat} {e : Entry} (h : Sound s)
    (hwindow : s.windows.get w = .opened m refs) (hentry : e.window = w)
    (hroom : (s.links.get m.slot).queue.length < Config.queueCapacity) (hslots : t.slots = s.slots)
    (hlinks : t.links = s.links.put m.slot
      { s.links.get m.slot with queue := (s.links.get m.slot).queue ++ [e] })
    (hwindows : t.windows = s.windows.put w (.opened m (refs + 1))) (hqueue : t.identQueue = s.identQueue)
    (hident : t.ident = s.ident) (hconfig : t.config = s.config) (htickets : t.tickets = s.tickets)
    (htable : ∀ tag, (if t.hostTable.get tag then 1 else 0) =
      (if s.hostTable.get tag then 1 else 0) + (answerTags [e.owed]).count tag) : Sound t := by
  have hof : (s.windows.get w).ofSlot m.slot = true := Window.ofSlot_iff.2 ⟨m, by rw [hwindow]; rfl, rfl⟩
  have hfits := h.fits w m.slot hof
  rw [hwindow] at hfits
  have hactive : (s.slots.get m.slot).state = .active := beq_iff_eq.1 hfits
  have hup : (s.links.get m.slot).state = .up := by
    have hlink := (h.slot m.slot).link
    rw [hactive] at hlink
    exact beq_iff_eq.1 hlink
  have howed : Link.owed { s.links.get m.slot with queue := (s.links.get m.slot).queue ++ [e] } =
      (s.links.get m.slot).owed ++ [e.owed] := by
    simp [Link.owed]
  have hget (v : WinIx) : t.windows.get v = if v = w then .opened m (refs + 1) else s.windows.get v := by
    rw [hwindows, Tbl.get_put]
  have hlink : t.links.get m.slot = { s.links.get m.slot with queue := (s.links.get m.slot).queue ++ [e] } := by
    rw [hlinks, Tbl.get_put, if_pos rfl]
  have hput : t.slots = s.slots.put m.slot (s.slots.get m.slot) := hslots.trans (put_get_self _ _).symm
  have hslot := h.slot m.slot
  refine h.local m.slot (fun j _ => by rw [hslots]) (fun j hj => by rw [hlinks, Tbl.get_put, if_neg hj]) hconfig ?_
    (h.ident.put hput hqueue hident Iff.rfl Iff.rfl) ?_ (fun v => ?_) (fun v hv => ?_) (fun v j hj hv => ?_)
    (fun v => ?_) (h.hostTags.taken hlinks howed htable) (h.closeTickets.kept (fun v => ?_) htickets)
    (.put h.slotTickets hput htickets (keepsTickets_self _))
  · rw [hlink, hslots]
    exact
      { link := hslot.link
        power := hslot.power
        timers := ⟨hslot.timers.settle, hslot.timers.power, hslot.timers.filter, hslot.timers.quiesce,
          hslot.timers.training, hslot.timers.tagsHeld, hslot.timers.tagsRange⟩
        profile := hslot.profile
        capacity := by
          rw [List.length_append]
          exact hroom
        tags := hslot.tags
        idle := fun hnot => absurd hup hnot }
  · have hunits := State.committed_put hput
    have hbudget := h.units
    omega
  · rw [hget]
    split
    · rename_i hv
      exact .inr (by rw [hv, hwindow]; rfl)
    · exact .inr rfl
  · rw [hslots]
    rw [hget] at hv ⊢
    split
    · exact hfits
    · rename_i hne
      rw [if_neg hne] at hv
      exact h.fits v m.slot hv
  · rw [hget, if_neg]
    rintro rfl
    exact hj (Window.ofSlot_unique hv hof)
  · have hcount : (t.links.get m.slot).heldWindows.count v =
        (s.links.get m.slot).heldWindows.count v + if v = w then 1 else 0 := by
      rw [hlink]
      unfold Link.heldWindows
      rw [howed, List.map_append, List.count_append]
      rw [List.map_singleton, show e.owed.window = w from hentry, List.count_singleton]
      simp only [beq_iff_eq, @eq_comm _ w v]
    rw [hcount, h.refs m.slot v, hget]
    by_cases hv : v = w
    · have hof' : (Window.opened m (refs + 1)).ofSlot m.slot = true := Window.ofSlot_iff.2 ⟨m, rfl, rfl⟩
      rw [if_pos hv, if_pos hv, hv, if_pos hof, if_pos hof', hwindow]
      rfl
    · rw [if_neg hv, if_neg hv, Nat.add_zero]
  · rw [hget]
    split
    · rename_i hv
      rw [hv, hwindow]
      rfl
    · rfl

/-- Acceptance keeps the invariant: a posted write is answered at once, and any other access owes its answer. -/
theorem Sound.accept {w : WinIx} {m : Mapping} {refs : Nat} {r : HostRequest} (h : Sound s)
    (hfree : s.hostTable.get r.tag = false) (hwindow : s.windows.get w = .opened m refs)
    (hroom : (s.links.get m.slot).queue.length < Config.queueCapacity) (offset : Nat) :
    Sound ((s.putHostTag r.tag true).accept w m refs r offset) := by
  unfold State.accept
  split
  · rename_i hposted
    refine h.entryQueued (e := acceptedEntry w m r offset) hwindow rfl hroom rfl rfl rfl rfl rfl rfl rfl fun tag => ?_
    have hnone : answerTags [(acceptedEntry w m r offset).owed] = [] := by
      simp [answerTags, Entry.owed, acceptedEntry, hposted]
    rw [hnone]
    by_cases htag : tag = r.tag
    · simp [htag, hfree]
    · simp [htag]
  · rename_i hposted
    refine h.entryQueued (e := acceptedEntry w m r offset) hwindow rfl hroom rfl rfl rfl rfl rfl rfl rfl fun tag => ?_
    have hone : answerTags [(acceptedEntry w m r offset).owed] = [r.tag] := by
      simp [answerTags, Entry.owed, acceptedEntry, hposted]
    rw [hone, List.count_singleton]
    by_cases htag : tag = r.tag
    · simp [htag, hfree]
    · simp [htag, Ne.symm htag]

theorem Sound.decodeAccess {r : HostRequest} (h : Sound s) (hfree : s.hostTable.get r.tag = false) (offset : Nat) :
    Sound ((s.putHostTag r.tag true).decodeAccess r offset) := by
  have hanswer (code : RespCode) : Sound ((s.putHostTag r.tag true).answer r.tag code none) :=
    h.answeredAtOnce hfree (.refl _) code none
  unfold State.decodeAccess
  split
  · exact hanswer _
  · split
    · exact hanswer _
    · split
      · rename_i hwindow
        split
        · split
          · rename_i hroom
            exact h.accept hfree hwindow hroom offset
          · exact hanswer _
        · exact hanswer _
      · exact hanswer _

theorem Sound.hostRequest (h : Sound s) (r : HostRequest) : Sound (s.hostRequest r) := by
  unfold State.hostRequest
  split
  · exact h
  · split
    · exact h
    · split
      · exact h.same (.raise s _)
      · rename_i hfree
        have hfree := Bool.eq_false_iff.2 hfree
        split
        · exact h.decodeAccess hfree _
        · exact h.controlAccess hfree _

end

end Sys2Proof.Machine

/-! PROOFS. The invariant through a host port reset (R153). -/

namespace Sys2Proof.Machine

-- One proof at a time: side by side they take more threads than the check's memory limit allows.
set_option Elab.async false

open Sys2Proof.Expected

/-! ### One engine (R42, R103) -/

section

variable (l : Link)

theorem LinkTag.orphan_eq_free_iff (t : LinkTag) : t.orphan = .free ↔ t = .free := by
  cases t <;> simp [LinkTag.orphan]

/-- An orphaned tag holds its reference. -/
theorem LinkTag.orphan_window (t : LinkTag) : t.orphan.owed.map Owed.window = t.owed.map Owed.window := by
  cases t <;> rfl

/-- An orphaned tag owes no answer. -/
theorem LinkTag.orphan_silent (t : LinkTag) : ∀ o ∈ t.orphan.owed, o.orphaned = true ∨ o.hostTag = none := by
  cases t with
  | inFlight r => cases hhost : r.hostTag <;> simp [LinkTag.orphan, LinkTag.owed, hhost]
  | _ => simp [LinkTag.orphan, LinkTag.owed]

theorem Link.hostReset_get (k : TagIx) : l.hostReset.tags.get k = (l.tags.get k).orphan := by
  rw [Link.hostReset, Tbl.get_each]

/-- The references of the entries removed are the ones the engine no longer holds. -/
theorem Link.count_hostReset (w : WinIx) :
    l.hostReset.heldWindows.count w + l.removedWindows.count w = l.heldWindows.count w := by
  have htags : ((List.finRange 8).filterMap fun k => (l.hostReset.tags.get k).owed).map Owed.window =
      ((List.finRange 8).filterMap fun k => (l.tags.get k).owed).map Owed.window := by
    rw [List.map_filterMap, List.map_filterMap]
    exact List.filterMap_congr fun k _ => by rw [Link.hostReset_get, LinkTag.orphan_window]
  have hqueue : (l.hostReset.queue.map Entry.window).count w + l.removedWindows.count w =
      (l.queue.map Entry.window).count w := by
    rw [← List.count_append, Link.removedWindows, Link.hostReset, ← List.map_append]
    have hsome : (fun e : Entry => e.hostTag.isSome) = fun e => !e.hostTag.isNone := funext fun e => by
      cases e.hostTag <;> rfl
    rw [hsome]
    exact ((List.filter_append_perm _ _).map _).count_eq w
  have hentries (q : List Entry) : (q.map Entry.owed).map Owed.window = q.map Entry.window := by
    rw [List.map_map]
    rfl
  unfold Link.heldWindows Link.owed
  rw [List.map_append, List.map_append, List.count_append, List.count_append, htags, hentries, hentries]
  omega

/-- After a host port reset an engine owes no answer. -/
theorem Link.owedTags_hostReset : l.hostReset.owedTags = [] := by
  refine List.filterMap_eq_nil_iff.2 fun o ho => ?_
  have hsilent : o.orphaned = true ∨ o.hostTag = none := by
    rcases List.mem_append.1 ho with htag | hentry
    · obtain ⟨k, -, hk⟩ := List.mem_filterMap.1 htag
      rw [Link.hostReset_get] at hk
      exact LinkTag.orphan_silent _ o hk
    · obtain ⟨e, he, rfl⟩ := List.mem_map.1 hentry
      exact .inr (Option.isNone_iff_eq_none.1 (List.mem_filter.1 he).2)
  rcases hsilent with horphan | hnone
  · exact if_pos horphan
  · rw [hnone, ite_self]

theorem Link.tagsInUse_hostReset : l.hostReset.tagsInUse = l.tagsInUse := by
  rw [Link.tagsInUse_eq, Link.tagsInUse_eq]
  refine List.countP_congr fun k _ => ?_
  rw [Link.hostReset_get, bne_iff_ne, bne_iff_ne, Ne, LinkTag.orphan_eq_free_iff]

theorem SlotFits.hostReset {r : Slot} {l : Link} (h : SlotFits r l) : SlotFits r l.hostReset where
  link := h.link
  power := h.power
  timers := ⟨h.timers.settle, h.timers.power, h.timers.filter, h.timers.quiesce, h.timers.training, h.timers.tagsHeld,
    h.timers.tagsRange⟩
  profile := h.profile
  capacity := (List.length_filter_le _ _).trans h.capacity
  tags := l.tagsInUse_hostReset.trans_le h.tags
  idle hup := by
    obtain ⟨hqueue, hfree⟩ := (Link.idle_iff _).1 (h.idle hup)
    refine (Link.idle_iff _).2 ⟨?_, fun k => ?_⟩
    · show l.queue.filter _ = []
      rw [hqueue]
      rfl
    · rw [Link.hostReset_get, LinkTag.orphan_eq_free_iff]
      exact hfree k

end

/-! ### All engines -/

section

variable {s t : State}

/-- The windows that lose a reference in a host port reset, once for each entry removed. -/
def State.removedWindows (s : State) : List WinIx := (List.finRange 8).flatMap fun n => (s.links.get n).removedWindows

theorem Sound.count_removedWindows (h : Sound s) {n : SlotIx} {w : WinIx} (hof : (s.windows.get w).ofSlot n = true) :
    s.removedWindows.count w = (s.links.get n).removedWindows.count w := by
  rw [State.removedWindows, List.count_flatMap]
  have hsum : ((List.finRange 8).map fun j => (s.links.get j).removedWindows.count w).sum =
      ∑ j, (s.links.get j).removedWindows.count w := (Fin.sum_univ_def _).symm
  refine hsum.trans (Finset.sum_eq_single n (fun j _ hj => ?_) fun hn => absurd (Finset.mem_univ n) hn)
  have hheld := (s.links.get j).count_hostReset w
  have hzero := h.refs.count_eq_refsOf j w
  rw [Window.refsOf_other (Ne.symm hj) hof] at hzero
  omega

/-- The engines after a host port reset hold the references the windows then have. -/
theorem Sound.refs_hostReset (h : Sound s) (n : SlotIx) (w : WinIx) :
    (s.links.get n).hostReset.heldWindows.count w =
      (releasedWindow (s.removedWindows.count w) (s.windows.get w)).refsOf n := by
  have hheld := (s.links.get n).count_hostReset w
  have hrefs := h.refs.count_eq_refsOf n w
  rw [refsOf_releasedWindow]
  by_cases hof : (s.windows.get w).ofSlot n = true
  · rw [h.count_removedWindows hof]
    omega
  · rw [refsOf_of_not_ofSlot hof] at hrefs ⊢
    omega

/-- The engines, the windows and the tickets after a host port reset, with every host tag freed. -/
theorem Sound.hostTagsDiscarded (h : Sound s) (hslots : t.slots = s.slots)
    (hlinks : ∀ n, t.links.get n = (s.links.get n).hostReset)
    (hwindows : t.windows = releasedWindows s.removedWindows s.windows)
    (htickets : t.tickets = s.tickets.each fun _ => Ticket.ended (closeEnding s.windows t.windows))
    (htable : ∀ tag, t.hostTable.get tag = false) (hconfig : t.config = s.config) (hqueue : t.identQueue = s.identQueue)
    (hident : t.ident = s.ident) : Sound t := by
  have hget (w : WinIx) : t.windows.get w = releasedWindow (s.removedWindows.count w) (s.windows.get w) := by
    rw [hwindows, releasedWindows, Tbl.get_each]
  have hmapping (w : WinIx) :
      (t.windows.get w).mapping = none ∨ (t.windows.get w).mapping = (s.windows.get w).mapping := by
    rw [hget]
    exact mapping_releasedWindow _ _
  have hcommitted : t.committed = s.committed := by rw [State.committed, hslots, State.committed]
  exact
    { slot := fun n => by
        rw [hslots, hlinks]
        exact (h.slot n).hostReset
      ident := h.ident.put (n := 0) (hslots.trans (put_get_self _ _).symm) hqueue hident Iff.rfl Iff.rfl
      units := by
        rw [hcommitted, hconfig]
        exact h.units
      budget := by
        rw [hconfig]
        exact h.budget
      mapping := fun w m hm => by
        rcases hmapping w with hnone | hsame
        · exact nomatch hnone.symm.trans hm
        · exact h.mapping w m (hsame ▸ hm)
      apart := fun v w page hne hv => Bool.eq_false_iff.2 fun hw =>
        Bool.eq_false_iff.1 (h.apart v w page hne (Window.covers_of_mapping (hmapping v) hv))
          (Window.covers_of_mapping (hmapping w) hw)
      grantOnce := fun v w m q hne hv => Bool.eq_false_iff.2 fun hw =>
        Bool.eq_false_iff.1 (h.grantOnce v w m q hne (Window.grants_of_mapping (hmapping v) hv))
          (Window.grants_of_mapping (hmapping w) hw)
      fits := fun w n hof => by
        have hof' := Window.ofSlot_of_mapping (hmapping w) hof
        rw [hget, hslots]
        exact fitsSlot_releasedWindow (h.slot n).profile_held _ (h.fits w n hof')
      refs := fun n w => by
        rw [hlinks, hget]
        exact h.refs_hostReset n w
      hostTags := fun tag => by
        rw [htable, State.count_owedTags, if_neg Bool.false_ne_true]
        refine Finset.sum_eq_zero fun n _ => ?_
        rw [hlinks, Link.owedTags_hostReset, List.count_nil]
      closeTickets := h.closeTickets.windowsMoved
        (fun w => by
          rw [hget]
          exact closesTo_releasedWindow _ _) htickets
      slotTickets := fun n => (h.slotTickets n).closeEnded (by rw [hslots]) htickets }

section

variable (s : State) (slots : List SlotIx) (f : Link → Link)

@[simp] theorem hostRecordsReset_slots : (hostRecordsReset s).slots = s.slots := rfl

@[simp] theorem hostRecordsReset_links : (hostRecordsReset s).links = s.links := rfl

@[simp] theorem hostRecordsReset_windows : (hostRecordsReset s).windows = s.windows := rfl

@[simp] theorem hostRecordsReset_config : (hostRecordsReset s).config = s.config := rfl

@[simp] theorem hostRecordsReset_identQueue : (hostRecordsReset s).identQueue = s.identQueue := rfl

@[simp] theorem hostRecordsReset_ident : (hostRecordsReset s).ident = s.ident := rfl

@[simp] theorem hostRecordsReset_tickets : (hostRecordsReset s).tickets = s.tickets := rfl

@[simp] theorem hostRecordsReset_partReset : (hostRecordsReset s).partReset = s.partReset := rfl

@[simp] theorem eachLink_slots : (eachLink slots f s).slots = s.slots := rfl

@[simp] theorem eachLink_windows : (eachLink slots f s).windows = s.windows := rfl

@[simp] theorem eachLink_config : (eachLink slots f s).config = s.config := rfl

@[simp] theorem eachLink_identQueue : (eachLink slots f s).identQueue = s.identQueue := rfl

@[simp] theorem eachLink_ident : (eachLink slots f s).ident = s.ident := rfl

@[simp] theorem eachLink_tickets : (eachLink slots f s).tickets = s.tickets := rfl

@[simp] theorem eachLink_partReset : (eachLink slots f s).partReset = s.partReset := rfl

theorem eachLink_get {n : SlotIx} (hn : n ∈ slots) : (eachLink slots f s).links.get n = f (s.links.get n) := by
  rw [eachLink, Tbl.get_each, if_pos hn]

end

theorem Sound.hostPortResets (h : Sound s) : Sound s.hostPortResets := by
  show Sound ((List.finRange 8).foldl State.testQuiesce
    (hostRecordsReset ((List.finRange 8).foldl State.hostResetLink s)))
  rw [State.foldl_hostResetLink h.closeTickets (List.nodup_finRange 8), released_eq]
  refine Sound.testAll (h.hostTagsDiscarded ?_ (fun n => ?_) ?_ ?_ (fun tag => ?_) ?_ ?_ ?_) _
  · simp
  · rw [hostRecordsReset_links, windowsEnded_links, eachLink_get _ _ _ (List.mem_finRange n)]
  · simp [State.removedWindows]
  · simp
  · exact Tbl.get_fill false tag
  · simp
  · simp
  · simp

end

end Sys2Proof.Machine

/-! PROOFS. The invariant through one window or one ticket moved, and through the commands of the windows. -/

namespace Sys2Proof.Machine

-- One proof at a time: side by side they take more threads than the check's memory limit allows.
set_option Elab.async false

open Sys2Proof.Expected

section

variable {s t : State} {n : SlotIx}

/-! ### Tickets allocated, finished and collected (R141 to R145) -/

/-- The OPEN tickets are the same records. -/
def sameOpen (s t : State) : Prop :=
  ∀ j op, (t.tickets.get j).body = .opened op ∨ (s.tickets.get j).body = .opened op → t.tickets.get j = s.tickets.get j

theorem sameOpen.opened_iff (h : sameOpen s t) (j : Fin 8) (op : TicketOp) :
    (t.tickets.get j).body = .opened op ↔ (s.tickets.get j).body = .opened op :=
  ⟨fun hj => h j op (.inl hj) ▸ hj, fun hj => (h j op (.inr hj)).symm ▸ hj⟩

/-- A ticket that is not OPEN replaced by another that is not. -/
theorem sameOpen_put {k : Fin 8} {x : Ticket} (htickets : t.tickets = s.tickets.put k x)
    (hold : ∀ op, (s.tickets.get k).body ≠ .opened op) (hnew : ∀ op, x.body ≠ .opened op) : sameOpen s t := by
  intro j op hopen
  rw [htickets, Tbl.get_put] at hopen ⊢
  split
  · rename_i hj
    rw [if_pos hj, hj] at hopen
    exact (hopen.elim (hnew op) (hold op)).elim
  · rfl

theorem CloseTicketsHeld.sameOpen (h : CloseTicketsHeld s) (hopen : sameOpen s t)
    (hwindows : ∀ w, (t.windows.get w).closeTicket = (s.windows.get w).closeTicket) : CloseTicketsHeld t where
  open_of_field w id hid := by
    obtain ⟨hbody, hsame⟩ := h.open_of_field w id ((hwindows w).symm.trans hid)
    rw [hopen _ _ (.inr hbody)]
    exact ⟨hbody, hsame⟩
  field_of_open w k hbody := by
    have hsame := hopen _ _ (.inl hbody)
    rw [hsame] at hbody ⊢
    exact (hwindows w).trans (h.field_of_open w k hbody)

theorem SlotTickets.sameOpen (h : SlotTickets s n) (hopen : sameOpen s t)
    (hstate : (t.slots.get n).state = (s.slots.get n).state) : SlotTickets t n :=
  h.congr hstate fun k op _ => hopen.opened_iff k op

/-- The ticket records after one that is FREE is allocated. -/
theorem opened_allocated_iff {k j : Fin 8} {op op' : TicketOp}
    (htickets : t.tickets = s.tickets.put k ((s.tickets.get k).allocate op)) (hfree : (s.tickets.get k).body = .free) :
    (t.tickets.get j).body = .opened op' ↔ j = k ∧ op' = op ∨ (s.tickets.get j).body = .opened op' := by
  rw [htickets, Tbl.get_put]
  by_cases hj : j = k
  · rw [if_pos hj, hj, hfree]
    simp [Ticket.allocate, eq_comm]
  · rw [if_neg hj]
    simp [hj]

theorem CloseTicketsHeld.allocated {k : Fin 8} {op : TicketOp} (h : CloseTicketsHeld s)
    (hfree : (s.tickets.get k).body = .free) (hop : ∀ w, op ≠ .close w)
    (hwindows : ∀ w, (t.windows.get w).closeTicket = (s.windows.get w).closeTicket)
    (htickets : t.tickets = s.tickets.put k ((s.tickets.get k).allocate op)) : CloseTicketsHeld t where
  open_of_field w id hid := by
    obtain ⟨hbody, hsame⟩ := h.open_of_field w id ((hwindows w).symm.trans hid)
    have hne : ticketIndex id ≠ k := by
      rintro rfl
      rw [hfree] at hbody
      cases hbody
    rw [htickets, Tbl.get_put, if_neg hne]
    exact ⟨hbody, hsame⟩
  field_of_open w j hbody := by
    rcases (opened_allocated_iff htickets hfree).1 hbody with ⟨-, heq⟩ | hopen
    · exact absurd heq.symm (hop w)
    · have hne : j ≠ k := by
        rintro rfl
        rw [hfree] at hopen
        cases hopen
      rw [hwindows, htickets, Tbl.get_put, if_neg hne]
      exact h.field_of_open w j hopen

/-- A close ticket allocated for a window that takes its id. -/
theorem CloseTicketsHeld.closeAllocated {k : Fin 8} {w : WinIx} (h : CloseTicketsHeld s)
    (hfree : (s.tickets.get k).body = .free) (hnone : (s.windows.get w).closeTicket = none)
    (hwindow : (t.windows.get w).closeTicket = some (((s.tickets.get k).allocate (.close w)).id k))
    (hother : ∀ v, v ≠ w → (t.windows.get v).closeTicket = (s.windows.get v).closeTicket)
    (htickets : t.tickets = s.tickets.put k ((s.tickets.get k).allocate (.close w))) : CloseTicketsHeld t where
  open_of_field v id hid := by
    by_cases hv : v = w
    · rw [hv, hwindow] at hid
      obtain rfl := Option.some.inj hid
      rw [ticketIndex_id, htickets, Tbl.get_put, if_pos rfl, hv]
      exact ⟨rfl, rfl⟩
    · obtain ⟨hbody, hsame⟩ := h.open_of_field v id ((hother v hv).symm.trans hid)
      have hne : ticketIndex id ≠ k := by
        rintro rfl
        rw [hfree] at hbody
        cases hbody
      rw [htickets, Tbl.get_put, if_neg hne]
      exact ⟨hbody, hsame⟩
  field_of_open v j hbody := by
    rcases (opened_allocated_iff htickets hfree).1 hbody with ⟨rfl, heq⟩ | hopen
    · obtain rfl : v = w := by simpa using heq
      rw [hwindow, htickets, Tbl.get_put, if_pos rfl]
    · have hne : j ≠ k := by
        rintro rfl
        rw [hfree] at hopen
        cases hopen
      have hfield := h.field_of_open v j hopen
      have hv : v ≠ w := by
        rintro rfl
        exact nomatch hnone.symm.trans hfield
      rw [hother v hv, htickets, Tbl.get_put, if_neg hne]
      exact hfield

theorem TicketOp.onSlot_unique {op : TicketOp} {i j : SlotIx} (hi : op.onSlot i = true) (hj : op.onSlot j = true) :
    i = j := by
  cases op with
  | close w => cases hi
  | admission m | ejection m | recovery m => exact (beq_iff_eq.1 hi).symm.trans (beq_iff_eq.1 hj)

/-- A slot without an OPEN ticket takes one for an operation that its new state runs. -/
theorem SlotTickets.allocated {k : Fin 8} {op : TicketOp} (h : ∀ j, SlotTickets s j)
    (hfree : (s.tickets.get k).body = .free) (hon : op.onSlot n = true) (hidle : ¬slotBusy s n)
    (htickets : t.tickets = s.tickets.put k ((s.tickets.get k).allocate op))
    (hother : ∀ j, j ≠ n → (t.slots.get j).state = (s.slots.get j).state)
    (hruns : op.runsIn (t.slots.get n).state = true)
    (hadmission : (t.slots.get n).state = .powering ∨ (t.slots.get n).state = .linking → op = .admission n)
    (hejection : (t.slots.get n).state = .ejecting → op = .ejection n) (j : SlotIx) : SlotTickets t j := by
  have hopened {i : Fin 8} {op' : TicketOp} :
      (t.tickets.get i).body = .opened op' ↔ i = k ∧ op' = op ∨ (s.tickets.get i).body = .opened op' :=
    opened_allocated_iff htickets hfree
  by_cases hj : j = n
  · subst hj
    have hnew (i : Fin 8) (op' : TicketOp) (hbody : (t.tickets.get i).body = .opened op') (hon' : op'.onSlot j = true) :
        i = k ∧ op' = op := by
      refine (hopened.1 hbody).resolve_right fun hopen => hidle ?_
      rcases TicketOp.onSlot_iff.1 hon' with rfl | rfl | rfl
      · exact .inl ⟨i, hopen⟩
      · exact .inr (.inl ⟨i, hopen⟩)
      · exact .inr (.inr ⟨i, hopen⟩)
    refine ⟨fun a b ha hb => ?_, fun i op' hbody hon' => ?_, fun hrunning => ⟨k, hopened.2 (.inl ⟨rfl, ?_⟩)⟩,
      fun hrunning => ⟨k, hopened.2 (.inl ⟨rfl, ?_⟩)⟩⟩
    · obtain ⟨opa, hbodya, hona⟩ := Ticket.openFor_iff.1 ha
      obtain ⟨opb, hbodyb, honb⟩ := Ticket.openFor_iff.1 hb
      rw [(hnew a opa hbodya hona).1, (hnew b opb hbodyb honb).1]
    · rw [(hnew i op' hbody hon').2]
      exact hruns
    · exact (hadmission hrunning).symm
    · exact (hejection hrunning).symm
  · refine (h j).congr (hother j hj) fun i op' hon' => hopened.trans (or_iff_right ?_)
    rintro ⟨-, rfl⟩
    exact hj (TicketOp.onSlot_unique hon' hon)

/-- A close ticket is none of a slot's. -/
theorem SlotTickets.closeAllocated {k : Fin 8} {w : WinIx} (h : SlotTickets s n)
    (hfree : (s.tickets.get k).body = .free)
    (htickets : t.tickets = s.tickets.put k ((s.tickets.get k).allocate (.close w)))
    (hstate : (t.slots.get n).state = (s.slots.get n).state) : SlotTickets t n :=
  h.congr hstate fun i op hon => (opened_allocated_iff htickets hfree).trans (or_iff_right fun ⟨_, heq⟩ => by
    rw [heq] at hon
    cases hon)

/-! ### One window moved -/

/-- A step that replaces one window, and moves the tickets with it. -/
theorem Sound.windowPut {w : WinIx} {x : Window} (h : Sound s) (hwindows : t.windows = s.windows.put w x)
    (hslots : t.slots = s.slots) (hlinks : t.links = s.links) (htable : t.hostTable = s.hostTable)
    (hconfig : t.config = s.config) (hqueue : t.identQueue = s.identQueue) (hident : t.ident = s.ident)
    (hrange : ∀ m, x.mapping = some m → m.inRange = true)
    (hapart : ∀ v page, v ≠ w → x.covers page = true → (s.windows.get v).covers page = false)
    (hgrants : ∀ v m q, v ≠ w → x.grants m q = true → (s.windows.get v).grants m q = false)
    (hfits : ∀ n, x.ofSlot n = true → x.fitsSlot (s.slots.get n) = true)
    (hrefs : ∀ n, x.refsOf n = (s.windows.get w).refsOf n) (hclose : CloseTicketsHeld t)
    (htickets : ∀ n, SlotTickets t n) : Sound t := by
  have hget (v : WinIx) : t.windows.get v = if v = w then x else s.windows.get v := by rw [hwindows, Tbl.get_put]
  have hput : t.slots = s.slots.put 0 (s.slots.get 0) := hslots.trans (put_get_self _ _).symm
  have hcommitted : t.committed = s.committed := by rw [State.committed, hslots, State.committed]
  exact
    { slot := fun n => by
        rw [hslots, hlinks]
        exact h.slot n
      ident := h.ident.put hput hqueue hident Iff.rfl Iff.rfl
      units := by
        rw [hcommitted, hconfig]
        exact h.units
      budget := by
        rw [hconfig]
        exact h.budget
      mapping := fun v m hm => by
        rw [hget] at hm
        split at hm
        · exact hrange m hm
        · exact h.mapping v m hm
      apart := fun u v page hne hu => by
        rw [hget] at hu ⊢
        split at hu
        · rename_i hw
          rw [if_neg fun hv => hne (hw.trans hv.symm)]
          exact hapart v page (fun hv => hne (hw.trans hv.symm)) hu
        · rename_i hw
          split
          · exact Bool.eq_false_iff.2 fun hx => Bool.eq_false_iff.1 (hapart u page hw hx) hu
          · exact h.apart u v page hne hu
      grantOnce := fun u v m q hne hu => by
        rw [hget] at hu ⊢
        split at hu
        · rename_i hw
          rw [if_neg fun hv => hne (hw.trans hv.symm)]
          exact hgrants v m q (fun hv => hne (hw.trans hv.symm)) hu
        · rename_i hw
          split
          · exact Bool.eq_false_iff.2 fun hx => Bool.eq_false_iff.1 (hgrants u m q hw hx) hu
          · exact h.grantOnce u v m q hne hu
      fits := fun v n hof => by
        rw [hslots]
        rw [hget] at hof ⊢
        split
        · rename_i hv
          rw [if_pos hv] at hof
          exact hfits n hof
        · rename_i hv
          rw [if_neg hv] at hof
          exact h.fits v n hof
      refs := fun n v => by
        rw [hlinks, h.refs.count_eq_refsOf n v, hget]
        split
        · rename_i hv
          rw [hv, ← hrefs n]
          rfl
        · rfl
      hostTags := h.hostTags.congr htable fun n => by rw [hlinks]
      closeTickets := hclose
      slotTickets := htickets }

/-- A step that moves one window and takes no page or grant. -/
theorem Sound.windowMoved {w : WinIx} {x : Window} (h : Sound s) (hwindows : t.windows = s.windows.put w x)
    (hslots : t.slots = s.slots) (hlinks : t.links = s.links) (htable : t.hostTable = s.hostTable)
    (hconfig : t.config = s.config) (hqueue : t.identQueue = s.identQueue) (hident : t.ident = s.ident)
    (hmapping : x.mapping = none ∨ x.mapping = (s.windows.get w).mapping)
    (hfits : ∀ n, x.ofSlot n = true → x.fitsSlot (s.slots.get n) = true)
    (hrefs : ∀ n, x.refsOf n = (s.windows.get w).refsOf n) (hclose : CloseTicketsHeld t)
    (htickets : ∀ n, SlotTickets t n) : Sound t :=
  h.windowPut hwindows hslots hlinks htable hconfig hqueue hident
    (fun m hm => hmapping.elim (fun hnone => nomatch hnone.symm.trans hm) fun hsame => h.mapping w m (hsame ▸ hm))
    (fun v page hv hx => h.apart w v page (Ne.symm hv) (Window.covers_of_mapping hmapping hx))
    (fun v m q hv hx => h.grantOnce w v m q (Ne.symm hv) (Window.grants_of_mapping hmapping hx)) hfits hrefs hclose
    htickets

end

end Sys2Proof.Machine

/-! PROOFS. The invariant through the commands. -/

namespace Sys2Proof.Machine

-- One proof at a time: side by side they take more threads than the check's memory limit allows.
set_option Elab.async false

open Sys2Proof.Expected

/-- A refusal has no effect, and what a taken command leaves is sound (R133). -/
def Completion.sound : Completion → Prop
  | .refuse _ => True
  | .finish _ _ t => Sound t

theorem checked_sound {α : Type} {operands : Option α} {body : α → Completion}
    (h : ∀ x, operands = some x → (body x).sound) : (checked operands body).sound := by
  cases operands with
  | none => trivial
  | some x => exact h x rfl

section

variable {s t : State} {n : SlotIx}

theorem deferred_sound {op : TicketOp} {start : Nat → State → State}
    (h : ∀ k, (s.tickets.get k).body = .free →
      Sound (start (((s.tickets.get k).allocate op).id k) (s.putTicket k ((s.tickets.get k).allocate op)))) :
    (deferred s op start).sound := by
  unfold deferred
  split
  · trivial
  · rename_i k hk
    exact h k (State.freeTicket_eq_some.1 hk).1

theorem closeTicket_put {windows : Tbl 64 Window} {w : WinIx} {x : Window}
    (hx : x.closeTicket = (windows.get w).closeTicket) (v : WinIx) :
    ((windows.put w x).get v).closeTicket = (windows.get v).closeTicket := by
  rw [Tbl.get_put]
  split
  · rename_i hv
    rw [hv, hx]
  · rfl

/-! ### WIN_STAGE (R5 to R11) -/

/-- The windows do not cover pages that a free run of pages does. -/
theorem Sound.apart_of_free (h : Sound s) {m : Mapping} (hrange : m.inRange = true)
    (hfree : ¬s.overlaps m.base m.pages = true) {page : Nat} (hpage : (Window.staged m).covers page = true)
    (v : WinIx) :
    (s.windows.get v).covers page = false := by
  have hpages (m' : Mapping) (hm : m'.inRange = true) : 0 < m'.pages := by
    simp only [Mapping.inRange, decide_eq_true_eq] at hm
    omega
  refine Bool.eq_false_iff.2 fun hcovers => hfree ((State.overlaps_iff (hpages m hrange)
    fun w m' hm => hpages m' (h.mapping w m' hm)).2 ⟨v, page, ?_⟩)
  simp only [Window.covers, Window.mapping, decide_eq_true_eq] at hpage
  exact ⟨hpage.1, hpage.2, hcovers⟩

theorem Sound.stageAt {m : Mapping} (h : Sound s) (hrange : m.inRange = true)
    (hprofile : (s.slots.get m.slot).profile.isSome = true)
    (hgrants : ∀ j q, (Window.staged m).grants j q = true → ∀ v, (s.windows.get v).grants j q = false)
    (window : Option WinIx) : (stageAt window m s).sound := by
  unfold Machine.stageAt
  split
  · trivial
  · rename_i w hindex
    split
    · trivial
    · rename_i hoverlap
      have hfree : s.windows.get w = .free := by
        unfold State.stageIndex at hindex
        split at hindex
        · split at hindex
          · cases hindex
            assumption
          · cases hindex
        · split at hindex
          · cases hindex
          · rename_i hw
            cases hindex
            exact (State.freeWindow_eq_some.1 hw).1
      refine h.windowPut (w := w) (x := .staged m) rfl rfl rfl rfl rfl rfl rfl (fun m' hm => ?_)
        (fun v page _ hpage => h.apart_of_free hrange hoverlap hpage v) (fun v j q _ hgrant => hgrants j q hgrant v)
        (fun j hof => ?_) (fun j => ?_) (h.closeTickets.kept (closeTicket_put (by rw [hfree]; rfl)) rfl)
        fun j => (h.slotTickets j).congr rfl fun _ _ _ => Iff.rfl
      · obtain rfl : m = m' := Option.some.inj hm
        exact hrange
      · obtain ⟨m', hm, rfl⟩ := Window.ofSlot_iff.1 hof
        obtain rfl : m = m' := Option.some.inj hm
        exact hprofile
      · rw [hfree, refsOf_eq_zero rfl, refsOf_eq_zero rfl]

theorem Sound.stageHostDefined (h : Sound s) (o : StageOperands)
    (hprofile : (s.slots.get o.slot).profile.isSome = true) : (stageHostDefined o s).sound := by
  unfold Machine.stageHostDefined
  split
  · trivial
  · rename_i hchecks
    refine h.stageAt ?_ hprofile (fun j q hgrant => ?_) _
    · simp only [Mapping.inRange, decide_eq_true_eq]
      omega
    · simp [Window.grants, Window.mapping] at hgrant

theorem Sound.stageGranted (h : Sound s) (o : StageOperands) {p : Profile}
    (hprofile : (s.slots.get o.slot).profile = some p) {q : Fin 6} {r : Request} (hr : r ∈ p.requests) :
    (stageGranted o q r s).sound := by
  unfold Machine.stageGranted
  split
  · trivial
  · split
    · trivial
    · rename_i hbase
      split
      · trivial
      · split
        · trivial
        · rename_i hgranting
          have hprofiles := (Profile.inRange_iff p).1 ((h.slot o.slot).profile p hprofile)
          have hin := (Request.inRange_iff r).1 (hprofiles.2 r hr)
          refine h.stageAt ?_ (by rw [hprofile]; rfl) (fun j q' hgrant v => ?_) _
          · simp only [Mapping.inRange, decide_eq_true_eq]
            simp only [Config.maxPages, Config.aperturePages, Config.modulePages] at hbase ⊢
            omega
          · have hnone := Option.not_isSome_iff_eq_none.1 hgranting
            rw [State.granting, find_finRange_eq_none] at hnone
            obtain ⟨rfl, rfl⟩ : o.slot = j ∧ q = q' := by simpa [Window.grants, Window.mapping] using hgrant
            exact hnone v

theorem Sound.stageWindow (h : Sound s) (o : StageOperands) : (stageWindow s o).sound := by
  unfold Machine.stageWindow
  split
  · trivial
  · rename_i p hprofile
    split
    · exact h.stageHostDefined o (by rw [hprofile]; rfl)
    · split
      · trivial
      · rename_i hr
        exact h.stageGranted o hprofile (List.mem_of_getElem? hr)

/-! ### WIN_OPEN, WIN_RELEASE and WIN_CLOSE (R12 to R17) -/

theorem Sound.openWindow (h : Sound s) (w : WinIx) : (openWindow s w).sound := by
  unfold Machine.openWindow
  split
  · rename_i m hwindow
    split
    · rename_i hactive
      refine h.windowMoved (w := w) (x := .opened m 0) rfl rfl rfl rfl rfl rfl rfl (.inr ?_) (fun j hof => ?_)
        (fun j => ?_) (h.closeTickets.kept (closeTicket_put (by rw [hwindow]; rfl)) rfl)
        fun j => (h.slotTickets j).congr rfl fun _ _ _ => Iff.rfl
      · rw [hwindow]
        rfl
      · obtain ⟨m', hm, rfl⟩ := Window.ofSlot_iff.1 hof
        obtain rfl : m = m' := Option.some.inj hm
        exact beq_iff_eq.2 hactive
      · rw [hwindow, refsOf_eq_zero rfl, refsOf_eq_zero rfl]
    · trivial
  · trivial

theorem Sound.releaseWindow (h : Sound s) (w : WinIx) : (releaseWindow s w).sound := by
  have htickets (x : Window) (j : SlotIx) : SlotTickets (s.putWindow w x) j :=
    (h.slotTickets j).congr rfl fun _ _ _ => Iff.rfl
  unfold Machine.releaseWindow
  split
  · trivial
  · rename_i m hwindow
    refine h.windowMoved (w := w) (x := .free) rfl rfl rfl rfl rfl rfl rfl (.inl rfl) (fun j _ => rfl) (fun j => ?_)
      (h.closeTickets.kept (closeTicket_put (by rw [hwindow]; rfl)) rfl) (htickets _)
    rw [hwindow, refsOf_eq_zero rfl, refsOf_eq_zero rfl]
  · trivial
  · rename_i m refs d ticket hwindow
    refine h.windowMoved (w := w) (x := .closing m refs .toFree ticket) rfl rfl rfl rfl rfl rfl rfl (.inr ?_)
      (fun j hof => ?_) (fun j => ?_) (h.closeTickets.kept (closeTicket_put (by rw [hwindow]; rfl)) rfl) (htickets _)
    · rw [hwindow]
      rfl
    · have hfits := h.fits w j (by rw [hwindow]; exact hof)
      rw [hwindow] at hfits
      exact hfits
    · rw [hwindow]
      rfl

/-- An OPEN window fits an ACTIVE slot (R12). -/
theorem Sound.active_of_opened {w : WinIx} {m : Mapping} {refs : Nat} (h : Sound s)
    (hwindow : s.windows.get w = .opened m refs) {j : SlotIx} (hof : (Window.opened m refs).ofSlot j = true) :
    (s.slots.get j).state = .active := by
  have hfits := h.fits w j (by rw [hwindow]; exact hof)
  rw [hwindow] at hfits
  exact beq_iff_eq.1 hfits

/-- An OPEN window without references drains as it closes, and its ticket is finished in the same step (R14, R20). -/
theorem Sound.closedAtOnce {w : WinIx} {m : Mapping} {k : Fin 8} {x : Ticket} (h : Sound s)
    (hwindow : s.windows.get w = .opened m 0) (hfree : (s.tickets.get k).body = .free)
    (hx : ∀ op, x.body ≠ .opened op) (hwindows : t.windows = s.windows.put w (.staged m)) (hslots : t.slots = s.slots)
    (hlinks : t.links = s.links) (htable : t.hostTable = s.hostTable) (hconfig : t.config = s.config)
    (hqueue : t.identQueue = s.identQueue) (hident : t.ident = s.ident) (htickets : t.tickets = s.tickets.put k x) :
    Sound t := by
  have hopen : sameOpen s t := sameOpen_put htickets (by simp [hfree]) hx
  refine h.windowMoved hwindows hslots hlinks htable hconfig hqueue hident (.inr ?_) (fun j hof => ?_) (fun j => ?_)
    (h.closeTickets.sameOpen hopen ?_) fun j => (h.slotTickets j).sameOpen hopen (by rw [hslots])
  · rw [hwindow]
    rfl
  · exact (h.slot j).profile_held (.inl (h.active_of_opened hwindow hof))
  · rw [hwindow, refsOf_eq_zero rfl, refsOf_eq_zero rfl]
  · rw [hwindows]
    exact closeTicket_put (by rw [hwindow]; rfl)

theorem Sound.closeWindow (h : Sound s) (w : WinIx) : (closeWindow s w).sound := by
  unfold Machine.closeWindow
  split
  · trivial
  · split
    · rename_i m refs hwindow
      refine deferred_sound fun k hfree => ?_
      by_cases hrefs : refs = 0
      · subst hrefs
        rw [State.startClose_of_noRefs (k := k) m _ (by simp) (by simp [Ticket.allocate])]
        refine h.closedAtOnce hwindow hfree (x := _) ?_ rfl rfl rfl rfl rfl rfl rfl (put_put_same _ _ _ _)
        simp
      · rw [State.startClose_of_refs _ _ _ hrefs]
        refine h.windowMoved (w := w) (x := .closing m refs .toStaged _) rfl rfl rfl rfl rfl rfl rfl (.inr ?_)
          (fun j hof => ?_) (fun j => ?_)
          (h.closeTickets.closeAllocated (k := k) (w := w) hfree ?_ ?_ (fun v hv => ?_) rfl)
          fun j => (h.slotTickets j).closeAllocated (w := w) hfree rfl rfl
        · rw [hwindow]
          rfl
        · simp only [Window.fitsSlot, Bool.and_eq_true, Bool.or_eq_true, beq_iff_eq, decide_eq_true_eq]
          exact ⟨.inl (h.active_of_opened hwindow hof), by omega⟩
        · rw [hwindow]
          rfl
        · rw [hwindow]
          rfl
        · rw [State.putWindow_windows, Tbl.get_put, if_pos rfl]
          rfl
        · rw [State.putWindow_windows, Tbl.get_put, if_neg hv]
          rfl
    · trivial

end

end Sys2Proof.Machine

/-! PROOFS. The invariant through the commands of the slots, the tickets and the configuration. -/

namespace Sys2Proof.Machine

-- One proof at a time: side by side they take more threads than the check's memory limit allows.
set_option Elab.async false

open Sys2Proof.Expected

section

variable {s t : State} {n : SlotIx}

/-! ### SLOT_ADMIT (R57) -/

theorem not_slotBusy (h : ¬(s.openTicket (TicketOp.onSlot n)).isSome = true) : ¬slotBusy s n :=
  fun hbusy => h (State.slotTicket_iff.2 hbusy)

theorem Sound.admitSlot (h : Sound s) (n : SlotIx) : (admitSlot s n).sound := by
  unfold Machine.admitSlot
  split
  · trivial
  · rename_i hidle
    split
    · trivial
    · rename_i hstate
      have hstate : (s.slots.get n).state = .identified := not_not.1 hstate
      split
      · trivial
      · rename_i hunits
        refine deferred_sound fun k hfree => ?_
        refine h.slotMoved (n := n) rfl (put_get_self _ _).symm rfl rfl rfl ((h.slot n).startAdmission hstate _ _)
          (.refl _)
          (h.keepsWindows ⟨id, by simp [hstate], by simp [hstate]⟩) (.inr ?_)
          (h.ident.put rfl rfl rfl (by simp [hstate, Slot.startAdmission]) (by simp [hstate, Slot.startAdmission]))
          (h.closeTickets.allocated hfree (fun _ => TicketOp.noConfusion) (fun _ => rfl) rfl)
          (.allocated (op := .admission n) h.slotTickets hfree (beq_self_eq_true n) (not_slotBusy hidle) rfl
            (fun j hj => ?_) ?_ (fun _ => rfl) fun hejecting => ?_)
        · have hput : ((s.putTicket k ((s.tickets.get k).allocate (.admission n))).putSlot n
              ((s.slots.get n).startAdmission s.config (s.powerGood.get n))).slots =
              s.slots.put n ((s.slots.get n).startAdmission s.config (s.powerGood.get n)) := rfl
          have hsum := State.committed_put hput
          have hzero : (s.slots.get n).committedUnits = 0 := by
            have hnothing := (h.slot n).power.units
            rwa [hstate] at hnothing
          rw [hzero] at hsum
          exact hsum.le.trans (Nat.le_of_not_gt hunits)
        · rw [State.putSlot_slots, Tbl.get_put, if_neg hj]
          rfl
        · rw [State.putSlot_slots, Tbl.get_put, if_pos rfl]
          rfl
        · rw [State.putSlot_slots, Tbl.get_put, if_pos rfl] at hejecting
          cases hejecting

/-! ### SLOT_EJECT (R21, R66) -/

theorem mapping_leaveActive (n : SlotIx) (x : Window) : (x.leaveActive n).mapping = x.mapping := by
  cases x with
  | opened m refs =>
    simp only [Window.leaveActive]
    split
    · split
      · rfl
      · rfl
    · rfl
  | _ => rfl

theorem ofSlot_leaveActive (n j : SlotIx) (x : Window) : (x.leaveActive n).ofSlot j = x.ofSlot j := by
  unfold Window.ofSlot
  rw [mapping_leaveActive]

theorem leaveActive_refs (n : SlotIx) (x : Window) : (x.leaveActive n).refs = x.refs := by
  cases x with
  | opened m refs =>
    simp only [Window.leaveActive]
    split
    · split
      · rename_i hrefs
        exact hrefs.symm
      · rfl
    · rfl
  | _ => rfl

theorem closeTicket_leaveActive (n : SlotIx) (x : Window) : (x.leaveActive n).closeTicket = x.closeTicket := by
  cases x with
  | opened m refs =>
    simp only [Window.leaveActive]
    split
    · split
      · rfl
      · rfl
    · rfl
  | _ => rfl

theorem leaveActive_other {x : Window} {j : SlotIx} (hj : j ≠ n) (hof : x.ofSlot j = true) : x.leaveActive n = x := by
  cases x with
  | opened m refs =>
    have hslot : m.slot = j := by simpa [Window.ofSlot, Window.mapping] using hof
    exact if_neg fun hn => hj (hslot.symm.trans hn)
  | _ => rfl

/-- The windows of an ACTIVE slot, as the slot becomes EJECTING (R21). -/
theorem fitsSlot_leaveActive {r : Slot} (hprofile : r.profile.isSome = true) {x : Window} (hof : x.ofSlot n = true)
    (hx : x.fitsSlot r = true) : (x.leaveActive n).fitsSlot { r with state := .ejecting } = true := by
  cases x with
  | free => rfl
  | staged m => exact hx
  | opened m refs =>
    have hslot : m.slot = n := by simpa [Window.ofSlot, Window.mapping] using hof
    simp only [Window.leaveActive, if_pos hslot]
    split
    · exact hprofile
    · rename_i hrefs
      simpa [Window.fitsSlot, Nat.one_le_iff_ne_zero] using hrefs
  | closing m refs d ticket =>
    simp only [Window.fitsSlot, Bool.and_eq_true, Bool.or_eq_true, beq_iff_eq] at hx
    simpa [Window.leaveActive, Window.fitsSlot] using hx.2

/-- An ACTIVE slot becomes EJECTING under a new ticket, and its OPEN windows leave ACTIVE (R21, R66). -/
theorem Sound.ejectionStarted {k : Fin 8} (h : Sound s) (hstate : (s.slots.get n).state = .active)
    (hidle : ¬slotBusy s n) (hfree : (s.tickets.get k).body = .free)
    (hslots : t.slots = s.slots.put n { s.slots.get n with state := .ejecting }) (hlinks : t.links = s.links)
    (hwindows : ∀ w, t.windows.get w = (s.windows.get w).leaveActive n) (htable : t.hostTable = s.hostTable)
    (hconfig : t.config = s.config) (hqueue : t.identQueue = s.identQueue) (hident : t.ident = s.ident)
    (htickets : t.tickets = s.tickets.put k ((s.tickets.get k).allocate (.ejection n))) : Sound t := by
  have hnew : t.slots.get n = { s.slots.get n with state := .ejecting } := by rw [hslots, Tbl.get_put, if_pos rfl]
  have hother (j : SlotIx) (hj : j ≠ n) : t.slots.get j = s.slots.get j := by rw [hslots, Tbl.get_put, if_neg hj]
  refine h.local n hother (fun j _ => by rw [hlinks]) hconfig ?_
    (h.ident.put hslots hqueue hident (by simp [hstate]) (by simp [hstate])) ?_ (fun w => .inr ?_) (fun w hof => ?_)
    (fun w j hj hof => ?_) (fun w => ?_) (h.hostTags.congr htable fun j => by rw [hlinks])
    (h.closeTickets.allocated hfree (fun _ => TicketOp.noConfusion) (fun w => ?_) htickets)
    (.allocated (op := .ejection n) h.slotTickets hfree (beq_self_eq_true n) hidle htickets
      (fun j hj => congrArg Slot.state (hother j hj)) ?_ (fun hrunning => ?_) fun _ => rfl)
  · rw [hnew, hlinks]
    exact (h.slot n).eject hstate
  · have hsum := State.committed_put hslots
    have hbudget := h.units
    have hsame : (s.slots.get n).committedUnits.toNat =
      ({ s.slots.get n with state := .ejecting } : Slot).committedUnits.toNat := rfl
    omega
  · rw [hwindows, mapping_leaveActive]
  · rw [hwindows, ofSlot_leaveActive] at hof
    rw [hwindows, hnew]
    exact fitsSlot_leaveActive ((h.slot n).profile_held (.inl hstate)) hof (h.fits w n hof)
  · rw [hwindows, leaveActive_other hj hof]
  · rw [hlinks, hwindows, ofSlot_leaveActive, leaveActive_refs]
    exact h.refs n w
  · rw [hwindows, closeTicket_leaveActive]
  · rw [hnew]
    rfl
  · rw [hnew] at hrunning
    simp at hrunning

theorem Sound.ejectSlot (h : Sound s) (n : SlotIx) : (ejectSlot s n).sound := by
  unfold Machine.ejectSlot
  split
  · trivial
  · rename_i hidle
    split
    · trivial
    · rename_i hstate
      refine deferred_sound fun k hfree => Sound.testQuiesce (h.ejectionStarted (n := n) (k := k) (not_not.1 hstate)
        (not_slotBusy hidle) hfree ?_ ?_ (fun w => ?_) ?_ ?_ ?_ ?_ ?_) n
      · simp
      · simp
      · rw [State.eachWindow_get, State.putSlot_windows, State.putTicket_windows]
      · simp
      · simp
      · simp
      · simp
      · simp

/-! ### SLOT_RECOVER (R24, R71) -/

/-- An IDENTIFIED or FAULTED slot has STAGED windows alone, which are freed (R12, R24). -/
theorem recover_eq {r : Slot} (hstate : r.state.recoverable = true) {x : Window} (hx : x.fitsSlot r = true)
    (hof : x.ofSlot n = true) : (∃ m, x = .staged m) ∧ x.recover n = .free := by
  have hnot : r.state ≠ .active ∧ r.state ≠ .ejecting := by
    rcases (SlotState.recoverable_iff _).1 hstate with hidentified | ⟨cause, hfaulted⟩
    · simp [hidentified]
    · simp [hfaulted]
  cases x with
  | free => cases hof
  | staged m =>
    have hslot : m.slot = n := by simpa [Window.ofSlot, Window.mapping] using hof
    exact ⟨⟨m, rfl⟩, if_pos hslot⟩
  | opened m refs => exact absurd (beq_iff_eq.1 hx) hnot.1
  | closing m refs d ticket =>
    simp only [Window.fitsSlot, Bool.and_eq_true, Bool.or_eq_true, beq_iff_eq] at hx
    exact absurd hx.1 (not_or.2 hnot)

theorem recover_other {x : Window} (hof : ¬x.ofSlot n = true) : x.recover n = x := by
  cases x with
  | staged m =>
    have hslot : ¬m.slot = n := by simpa [Window.ofSlot, Window.mapping] using hof
    exact if_neg hslot
  | _ => rfl

/-- The slot becomes QUEUED under a new ticket, without windows and profile (R71). -/
theorem Sound.recoveryStarted {k : Fin 8} (h : Sound s) (hstate : (s.slots.get n).state.recoverable = true)
    (hidle : ¬slotBusy s n) (hfree : (s.tickets.get k).body = .free)
    (hslots : t.slots = s.slots.put n { s.slots.get n with state := .queued, profile := none })
    (hlinks : t.links = s.links) (hwindows : ∀ w, t.windows.get w = (s.windows.get w).recover n)
    (htable : t.hostTable = s.hostTable) (hconfig : t.config = s.config) (hqueue : t.identQueue = s.identQueue ++ [n])
    (hident : t.ident = s.ident)
    (htickets : t.tickets = s.tickets.put k ((s.tickets.get k).allocate (.recovery n))) : Sound t := by
  have hnew : t.slots.get n = { s.slots.get n with state := .queued, profile := none } := by
    rw [hslots, Tbl.get_put, if_pos rfl]
  have hother (j : SlotIx) (hj : j ≠ n) : t.slots.get j = s.slots.get j := by rw [hslots, Tbl.get_put, if_neg hj]
  have hfacts : (s.slots.get n).state.powered = false ∧ (s.slots.get n).state ≠ .settling ∧
      (s.slots.get n).state ≠ .queued ∧ (s.slots.get n).state ≠ .identifying := by
    rcases (SlotState.recoverable_iff _).1 hstate with hidentified | ⟨cause, hfaulted⟩
    · simp [hidentified, SlotState.powered]
    · simp [hfaulted, SlotState.powered]
  obtain ⟨hpowered, hsettling, hqueued, hidentifying⟩ := hfacts
  have hfit := h.slot n
  have hsettle : (s.slots.get n).settleTimer.isSome = true ↔ SlotState.queued = .settling :=
    iff_of_false (fun hsome => hsettling (hfit.timers.settle.1 hsome)) SlotState.noConfusion
  have hwindow (w : WinIx) (hof : (s.windows.get w).ofSlot n = true) := recover_eq hstate (h.fits w n hof) hof
  refine h.local n hother (fun j _ => by rw [hlinks]) hconfig ?_
    (h.ident.append hslots hqueue hident rfl hqueued hidentifying) ?_ (fun w => ?_) (fun w hof => ?_)
    (fun w j hj hof => ?_) (fun w => ?_) (h.hostTags.congr htable fun j => by rw [hlinks])
    (h.closeTickets.allocated hfree (fun _ => TicketOp.noConfusion) (fun w => ?_) htickets)
    (.allocated (op := .recovery n) h.slotTickets hfree (beq_self_eq_true n) hidle htickets
      (fun j hj => congrArg Slot.state (hother j hj)) ?_ (fun hrunning => ?_) fun hrunning => ?_)
  · rw [hnew, hlinks]
    exact hfit.rest hpowered (state := .queued) (profile := none) (settle := (s.slots.get n).settleTimer) rfl rfl
      (fun p hp => nomatch hp) hsettle fun _ => rfl
  · have hsum := State.committed_put hslots
    have hbudget := h.units
    have hsame : (s.slots.get n).committedUnits.toNat =
      ({ s.slots.get n with state := .queued, profile := none } : Slot).committedUnits.toNat := rfl
    omega
  · rw [hwindows]
    by_cases hof : (s.windows.get w).ofSlot n = true
    · exact .inl (by rw [(hwindow w hof).2]; rfl)
    · exact .inr (by rw [recover_other hof])
  · rw [hwindows] at hof ⊢
    by_cases hold : (s.windows.get w).ofSlot n = true
    · rw [(hwindow w hold).2]
      rfl
    · rw [recover_other hold] at hof
      exact absurd hof hold
  · rw [hwindows, recover_other fun hn => hj (Window.ofSlot_unique hof hn)]
  · rw [hlinks, hwindows, h.refs n w]
    by_cases hof : (s.windows.get w).ofSlot n = true
    · obtain ⟨⟨m, hstaged⟩, hgone⟩ := hwindow w hof
      rw [hgone, hstaged]
      simp [Window.refs]
    · rw [recover_other hof]
  · rw [hwindows]
    by_cases hof : (s.windows.get w).ofSlot n = true
    · obtain ⟨⟨m, hstaged⟩, hgone⟩ := hwindow w hof
      rw [hgone, hstaged]
      rfl
    · rw [recover_other hof]
  · rw [hnew]
    rfl
  · rw [hnew] at hrunning
    simp at hrunning
  · rw [hnew] at hrunning
    simp at hrunning

theorem Sound.recoverSlot (h : Sound s) (n : SlotIx) : (recoverSlot s n).sound := by
  unfold Machine.recoverSlot
  split
  · trivial
  · rename_i hidle
    split
    · rename_i hstate
      refine deferred_sound fun k hfree => Sound.serveIdent (h.recoveryStarted (n := n) (k := k) hstate
        (not_slotBusy hidle) hfree ?_ ?_ (fun w => ?_) ?_ ?_ ?_ ?_ ?_)
      · simp
      · simp
      · rw [State.putIdentQueue_windows, State.putSlot_windows, State.eachWindow_get, State.putTicket_windows]
      · simp
      · simp
      · simp
      · simp
      · simp
    · trivial

/-! ### The other commands -/

theorem Sound.readProfile (h : Sound s) (a : SlotIx × Fin 7) : (readProfile s a).sound := by
  unfold Machine.readProfile
  split
  · trivial
  · split
    · exact h
    · dsimp only
      split
      · trivial
      · exact h

theorem Sound.readTicket (h : Sound s) (id : Nat) : (readTicket s id).sound := by
  unfold Machine.readTicket
  split
  · trivial
  · split
    · trivial
    · exact h

theorem Sound.clearPosted (h : Sound s) (n : SlotIx) : (clearPosted s n).sound :=
  h.putTimers (n := n) (posted := none) (h.slot n).timers.filter rfl

theorem Sound.collectTicket (h : Sound s) (id : Nat) : (collectTicket s id).sound := by
  unfold Machine.collectTicket
  split
  · trivial
  · rename_i k hk
    split
    · rename_i op outcome detail hbody
      have hopen : sameOpen s (s.putTicket k { s.tickets.get k with body := .free }) :=
        sameOpen_put rfl (by simp [hbody]) (by simp)
      exact h.slotMoved (n := 0) (put_get_self _ _).symm (put_get_self _ _).symm rfl rfl rfl (h.slot 0) (.refl _)
        (h.keepsWindows (.refl _)) (.inl le_rfl) (h.ident.put (n := 0) (put_get_self _ _).symm rfl rfl Iff.rfl Iff.rfl)
        (h.closeTickets.sameOpen hopen fun _ => rfl) fun j => (h.slotTickets j).sameOpen hopen rfl
    · trivial

theorem configOperands_budget {o : Tbl 4 Word} {c : PartConfig} (h : configOperands o = some c) :
    c.budget ≤ Config.maxBudget := by
  simp only [configOperands, Option.bind_eq_bind, Option.bind_eq_some_iff] at h
  obtain ⟨settle, -, power, -, completion, -, clock, -, hc⟩ := h
  split at hc
  · rename_i hchecks
    obtain rfl := Option.some.inj hc
    simp only [Bool.and_eq_true, decide_eq_true_eq] at hchecks
    exact hchecks.1.1
  · cases hc

theorem Sound.configurePart (h : Sound s) {c : PartConfig} (hbudget : c.budget ≤ Config.maxBudget) :
    (configurePart s c).sound := by
  unfold Machine.configurePart
  split
  · trivial
  · rename_i hunits
    exact
      { slot := h.slot
        ident := ⟨h.ident.queueOnce, h.ident.queueExact, h.ident.reading, h.ident.sound⟩
        units := Nat.le_of_not_lt hunits
        budget := hbudget
        mapping := h.mapping
        apart := h.apart
        grantOnce := h.grantOnce
        fits := h.fits
        refs := h.refs
        hostTags := h.hostTags
        closeTickets := ⟨h.closeTickets.open_of_field, h.closeTickets.field_of_open⟩
        slotTickets := fun n => (h.slotTickets n).congr rfl fun _ _ _ => Iff.rfl }

/-! ### Every command -/

theorem commandBody_sound (h : Sound s) (c : Command) (o : Tbl 4 Word) : (commandBody c o s).sound := by
  cases c with
  | nop | partConfigRead => exact h
  | winRead | winLookup | slotRead | srcRead => exact checked_sound fun _ _ => h
  | slotClearPosted => exact checked_sound fun n _ => h.clearPosted n
  | srcRoute => exact checked_sound fun _ _ => h.same ⟨rfl, rfl, rfl, rfl, rfl, rfl, rfl, rfl⟩
  | winStage => exact checked_sound fun o _ => h.stageWindow o
  | winOpen => exact checked_sound fun w _ => h.openWindow w
  | winClose => exact checked_sound fun w _ => h.closeWindow w
  | winRelease => exact checked_sound fun w _ => h.releaseWindow w
  | profileRead => exact checked_sound fun a _ => h.readProfile a
  | slotAdmit => exact checked_sound fun n _ => h.admitSlot n
  | slotEject => exact checked_sound fun n _ => h.ejectSlot n
  | slotRecover => exact checked_sound fun n _ => h.recoverSlot n
  | ticketRead => exact checked_sound fun id _ => h.readTicket id
  | ticketCollect => exact checked_sound fun id _ => h.collectTicket id
  | partConfig => exact checked_sound fun c hc => h.configurePart (configOperands_budget hc)

theorem Sound.runCommand (h : Sound s) (c : Command) : Sound (runCommand c (commandBody c) s) := by
  unfold Machine.runCommand
  split
  · have hbody := commandBody_sound h c s.engine.takenOperands
    cases hcase : commandBody c s.engine.takenOperands s with
    | refuse code => exact h.same (.complete s _ _)
    | finish code results t =>
      rw [hcase] at hbody
      exact Sound.same hbody (.complete t _ _)
  · exact h

theorem Sound.completeUndefined (h : Sound s) : Sound s.completeUndefined := by
  unfold State.completeUndefined
  split
  · exact h.same (.complete s _ _)
  · exact h

end

end Sys2Proof.Machine

/-! PROOFS. What every command keeps of the part reset and of the service of the Identification Queue (R76, R158). -/

namespace Sys2Proof.Machine

-- One proof at a time: side by side they take more threads than the check's memory limit allows.
set_option Elab.async false

open Sys2Proof.Expected

/-- Part reset is in force or not as before, and neither the controller nor its queue has moved. -/
def Steady (s t : State) : Prop := t.partReset = s.partReset ∧ t.ident = s.ident ∧ t.identQueue = s.identQueue

/-- Part reset is in force or not as before, and an IDLE controller still leaves no slot waiting (R76). -/
structure Serving (s t : State) : Prop where
  partReset : t.partReset = s.partReset
  served : (s.ident = .idle → s.identQueue = []) → t.ident = .idle → t.identQueue = []

section

variable {s t u : State}

theorem Steady.serving (h : Steady s t) : Serving s t where
  partReset := h.1
  served hserved hidle := by
    obtain ⟨-, hident, hqueue⟩ := h
    rw [hqueue]
    exact hserved (hident.symm.trans hidle)

theorem Steady.refl (s : State) : Steady s s := ⟨rfl, rfl, rfl⟩

theorem Steady.trans (h : Steady s t) (h' : Steady t u) : Steady s u :=
  ⟨h'.1.trans h.1, h'.2.1.trans h.2.1, h'.2.2.trans h.2.2⟩

/-- The controller is at work. -/
theorem Serving.busy (hreset : t.partReset = s.partReset) (hbusy : t.ident ≠ .idle) : Serving s t :=
  ⟨hreset, fun _ hidle => absurd hidle hbusy⟩

/-- An IDLE controller has just been served. -/
theorem Serving.serveIdent (h : t.partReset = s.partReset) : Serving s t.serveIdent :=
  ⟨(State.serveIdent_partReset t).trans h, fun _ => t.serveIdent_served⟩

theorem Serving.enqueueIdent (h : t.partReset = s.partReset) (n : SlotIx) : Serving s (t.enqueueIdent n) :=
  .serveIdent h

/-! ### The events of the slots and their links -/

theorem Steady.presenceRises (s : State) (n : SlotIx) : Steady s (s.presenceRises n) := by
  unfold State.presenceRises
  split <;> simp [Steady]

theorem Steady.presenceFalls (s : State) (n : SlotIx) : Steady s (s.presenceFalls n) := by
  unfold State.presenceFalls
  split <;> simp [Steady]

theorem Steady.powerGoodRises (s : State) (n : SlotIx) : Steady s (s.powerGoodRises n) := by
  unfold State.powerGoodRises
  split <;> simp [Steady]

theorem Steady.powerGoodFalls (s : State) (n : SlotIx) : Steady s (s.powerGoodFalls n) := by
  unfold State.powerGoodFalls
  split <;> simp [Steady]

theorem Steady.qualified (s : State) (n : SlotIx) : Steady s (s.qualified n) := by
  unfold State.qualified
  split <;> simp [Steady]

theorem Steady.powerTimesOut (s : State) (n : SlotIx) : Steady s (s.powerTimesOut n) := by
  unfold State.powerTimesOut
  split <;> simp [Steady]

theorem Steady.trainingTimesOut (s : State) (n : SlotIx) : Steady s (s.trainingTimesOut n) := by
  unfold State.trainingTimesOut
  split <;> simp [Steady]

theorem Steady.takeReady (s : State) (n : SlotIx) (count : Nat) : Steady s (s.takeReady n count) := by
  unfold State.takeReady State.admitted
  split
  · split <;> simp [Steady]
  · exact .refl s

theorem Steady.sendHead (s : State) (n : SlotIx) : Steady s (s.sendHead n) := by
  unfold State.sendHead
  split <;> simp [Steady]

theorem Steady.settleRequest (s : State) (n : SlotIx) (r : TagRecord) (status : CplStatus) (data : List Byte) :
    Steady s (s.settleRequest n r status data) := by
  unfold State.settleRequest
  split
  · split <;> simp [Steady]
  · split <;> simp [Steady]

theorem Steady.settleTimeout (s : State) (n : SlotIx) (r : TagRecord) : Steady s (s.settleTimeout n r) := by
  unfold State.settleTimeout
  split
  · split <;> simp [Steady]
  · simp [Steady]

theorem Steady.testQuiesce (s : State) (n : SlotIx) : Steady s (s.testQuiesce n) := by
  simp [Steady]

theorem Steady.putLink_releaseRef (s : State) (n : SlotIx) (l : Link) (w : WinIx) :
    Steady s ((s.putLink n l).releaseRef w) := by
  simp [Steady]

theorem Steady.takeCompletion (s : State) (n : SlotIx) (k : TagIx) (status : CplStatus) (data : List Byte) :
    Steady s (s.takeCompletion n k status data) := by
  unfold State.takeCompletion
  split
  · split
    · simp [Steady]
    · simp [Steady]
    · split
      · exact ((Steady.putLink_releaseRef s n _ _).trans (.settleRequest _ _ _ _ _)).trans (.testQuiesce _ n)
      · simp [Steady]
  · exact .refl s

theorem Steady.requestTimesOut (s : State) (n : SlotIx) (k : TagIx) : Steady s (s.requestTimesOut n k) := by
  unfold State.requestTimesOut
  split
  · exact ((Steady.putLink_releaseRef s n _ _).trans (.settleTimeout _ _ _)).trans (.testQuiesce _ n)
  · exact .refl s

theorem Steady.quarantineEnds (s : State) (n : SlotIx) (k : TagIx) : Steady s (s.quarantineEnds n k) := by
  unfold State.quarantineEnds
  split <;> simp [Steady]

theorem Steady.takeAttention (s : State) (n : SlotIx) (causes : Byte) : Steady s (s.takeAttention n causes) := by
  unfold State.takeAttention
  split <;> simp [Steady]

theorem Steady.takeEjectRequest (s : State) (n : SlotIx) : Steady s (s.takeEjectRequest n) := by
  unfold State.takeEjectRequest
  split <;> simp [Steady]

theorem Steady.takeQuiesced (s : State) (n : SlotIx) : Steady s (s.takeQuiesced n) := by
  unfold State.takeQuiesced
  split <;> simp [Steady]

theorem Steady.quiesceTimesOut (s : State) (n : SlotIx) : Steady s (s.quiesceTimesOut n) := by
  unfold State.quiesceTimesOut
  split <;> simp [Steady]

theorem Steady.takeUnknown (s : State) (n : SlotIx) : Steady s (s.takeUnknown n) := by
  unfold State.takeUnknown
  split <;> simp [Steady]

theorem Steady.losesLock (s : State) (n : SlotIx) : Steady s (s.losesLock n) := by
  unfold State.losesLock
  split <;> simp [Steady]

/-! ### Host port reset -/

theorem Steady.releaseAll (s : State) (l : List WinIx) : Steady s (l.foldl State.releaseRef s) := by
  induction l generalizing s with
  | nil => exact .refl s
  | cons w l ih => exact Steady.trans (by simp [Steady]) (ih (s.releaseRef w))

theorem Steady.hostResetLinks (s : State) (l : List SlotIx) : Steady s (l.foldl State.hostResetLink s) := by
  induction l generalizing s with
  | nil => exact .refl s
  | cons n l ih =>
    have hput : Steady s (s.putLink n (s.links.get n).hostReset) := .refl s
    have hlink : Steady s (s.hostResetLink n) := hput.trans (.releaseAll _ _)
    exact hlink.trans (ih (s.hostResetLink n))

theorem Steady.testAll (s : State) (l : List SlotIx) : Steady s (l.foldl State.testQuiesce s) := by
  induction l generalizing s with
  | nil => exact .refl s
  | cons n l ih => exact (Steady.testQuiesce s n).trans (ih (s.testQuiesce n))

theorem Steady.hostRecordsReset (s : State) : Steady s (hostRecordsReset s) := by
  simp [Steady]

theorem Steady.hostPortResets (s : State) : Steady s s.hostPortResets := by
  show Steady s ((List.finRange 8).foldl State.testQuiesce
    (Machine.hostRecordsReset ((List.finRange 8).foldl State.hostResetLink s)))
  exact ((Steady.hostResetLinks s _).trans (.hostRecordsReset _)).trans (.testAll _ _)

/-! ### The requests of the host -/

theorem Steady.writeWord {data : Word} {b : BlockWord} (h : s.writeWord data b = some t) : Steady s t := by
  cases b with
  | operand k => cases h; exact .refl s
  | commandCode =>
    cases h
    unfold State.writeCode
    split <;> simp [Steady]
  | eos l =>
    cases h
    unfold State.takeEos
    split <;> simp [Steady]
  | _ => cases h

theorem Steady.readWord {b : BlockWord} {v : Word} (h : s.readWord b = some (v, t)) : Steady s t := by
  cases b with
  | commandCode => cases h
  | ack l =>
    cases h
    unfold State.takeAck
    split <;> simp [Steady]
  | _ => cases h; exact .refl s

theorem Steady.answer (h : Steady s t) (tag : HostTag) (code : RespCode) (data : Option Word) :
    Steady s (t.answer tag code data) := h

theorem Steady.controlAccess (s : State) (r : HostRequest) (offset : Nat) : Steady s (s.controlAccess r offset) := by
  unfold State.controlAccess
  split
  · exact .answer (.refl s) _ _ _
  · split
    · split
      · exact .answer (.refl s) _ _ _
      · rename_i hread
        exact .answer (.readWord hread) _ _ _
    · split
      · exact .answer (.refl s) _ _ _
      · rename_i hwrite
        exact .answer (.writeWord hwrite) _ _ _

theorem Steady.decodeAccess (s : State) (r : HostRequest) (offset : Nat) : Steady s (s.decodeAccess r offset) := by
  have hanswer (code : RespCode) : Steady s (s.answer r.tag code none) := .answer (.refl s) _ _ _
  unfold State.decodeAccess
  split
  · exact hanswer _
  · split
    · exact hanswer _
    · split
      · split
        · split
          · unfold State.accept
            split <;> simp [Steady]
          · exact hanswer _
        · exact hanswer _
      · exact hanswer _

theorem Steady.hostRequest (s : State) (r : HostRequest) : Steady s (s.hostRequest r) := by
  have hclaimed : Steady s (s.putHostTag r.tag true) := .refl s
  unfold State.hostRequest
  split
  · exact .refl s
  · split
    · exact .refl s
    · split
      · simp [Steady]
      · split
        · exact hclaimed.trans (.decodeAccess _ r _)
        · exact hclaimed.trans (.controlAccess _ r _)

/-! ### The identification -/

theorem Serving.settled (s : State) (n : SlotIx) : Serving s (s.settled n) := by
  unfold State.settled
  split
  · exact .serveIdent rfl
  · exact (Steady.refl s).serving

theorem Serving.readFails (h : t.partReset = s.partReset) (r : ReadRecord) (cause : FaultCause) :
    Serving s (t.readFails r cause) := .serveIdent (by simpa using h)

theorem Serving.readSucceeds (h : t.partReset = s.partReset) (r : ReadRecord) (p : Profile) :
    Serving s (t.readSucceeds r p) := .serveIdent (by simpa using h)

theorem Serving.attemptFailure (h : t.partReset = s.partReset) (r : ReadRecord) : Serving s (t.attemptFailure r) := by
  unfold State.attemptFailure
  split
  · exact .busy h IdentCtl.noConfusion
  · exact .readFails h r _

theorem Serving.busCleared (s : State) (pulses : Option (Fin 10)) : Serving s (s.busCleared pulses) := by
  unfold State.busCleared
  split
  · split
    · split
      · exact .busy rfl IdentCtl.noConfusion
      · exact .attemptFailure (by simp) _
    · exact (Steady.refl s).serving
  · exact (Steady.refl s).serving

theorem Serving.headerRead (s : State) (run : List Transfer) : Serving s (s.headerRead run) := by
  unfold State.headerRead
  split
  · split
    · dsimp only
      split
      · split
        · exact .busy rfl IdentCtl.noConfusion
        · exact .readFails (by simp) _ _
      · exact .busy rfl IdentCtl.noConfusion
    · exact (Steady.refl s).serving
  · exact (Steady.refl s).serving

theorem Serving.bodyRead (s : State) (run : List Transfer) : Serving s (s.bodyRead run) := by
  unfold State.bodyRead
  split
  · split
    · dsimp only
      split
      · exact .busy rfl IdentCtl.noConfusion
      · split
        · exact .readSucceeds (by simp) _ _
        · exact .readFails (by simp) _ _
    · exact (Steady.refl s).serving
  · exact (Steady.refl s).serving

theorem Serving.missingAcknowledge (s : State) : Serving s s.missingAcknowledge := by
  unfold State.missingAcknowledge
  split
  · split
    · exact .attemptFailure (by simp) _
    · exact .attemptFailure (by simp) _
    · exact (Steady.refl s).serving
  · exact (Steady.refl s).serving

theorem Serving.retry (s : State) : Serving s s.retry := by
  unfold State.retry
  split
  · exact .busy rfl IdentCtl.noConfusion
  · exact (Steady.refl s).serving

theorem Serving.abandonedEnd (s : State) : Serving s s.abandonedEnd := by
  unfold State.abandonedEnd
  split
  · exact .serveIdent rfl
  · exact (Steady.refl s).serving

/-! ### The removal of a module (R77, R86) -/

theorem Serving.removeIdent (h : Steady s t) (n : SlotIx) (was : SlotState) (place : LinkPlace) :
    Serving s (t.removeIdent n was place) := by
  have hreset := h.1
  unfold State.removeIdent
  split
  · refine ⟨hreset, fun hserved hidle => ?_⟩
    have hempty := h.serving.served hserved hidle
    show t.identQueue.filter _ = []
    rw [hempty, List.filter_nil]
  · split
    · split
      · split
        · exact .busy hreset IdentCtl.noConfusion
        · exact .serveIdent hreset
      · exact h.serving
    · split
      · exact .serveIdent hreset
      · exact h.serving
    · exact h.serving
  · exact h.serving

theorem Serving.removalExpires (s : State) (n : SlotIx) (place : LinkPlace) : Serving s (s.removalExpires n place) := by
  unfold State.removalExpires
  split
  · refine Serving.removeIdent ?_ _ _ _
    split <;> simp [Steady]
  · exact (Steady.refl s).serving

/-! ### The commands -/

/-- What a taken command leaves keeps the service of the queue. -/
def Completion.serving (s : State) : Completion → Prop
  | .refuse _ => True
  | .finish _ _ t => Serving s t

theorem checked_serving {α : Type} {operands : Option α} {body : α → Completion} (h : ∀ x, (body x).serving s) :
    (checked operands body).serving s := by
  cases operands with
  | none => trivial
  | some x => exact h x

theorem deferred_serving {op : TicketOp} {start : Nat → State → State}
    (h : ∀ id t, Steady s t → Serving s (start id t)) : (deferred s op start).serving s := by
  unfold deferred
  split
  · trivial
  · exact h _ _ (.refl s)

theorem Completion.serving_finish {code : ResultCode} {results : Tbl 4 Word} (h : Steady s t) :
    (Completion.finish code results t).serving s := h.serving

theorem stageAt_serving (window : Option WinIx) (m : Mapping) : (stageAt window m s).serving s := by
  unfold stageAt
  split
  · trivial
  · split
    · trivial
    · exact Completion.serving_finish (.refl s)

theorem stageWindow_serving (o : StageOperands) : (stageWindow s o).serving s := by
  unfold stageWindow
  split
  · trivial
  · split
    · unfold stageHostDefined
      split
      · trivial
      · exact stageAt_serving _ _
    · split
      · trivial
      · unfold stageGranted
        split
        · trivial
        · split
          · trivial
          · split
            · trivial
            · split
              · trivial
              · exact stageAt_serving _ _

theorem openWindow_serving (w : WinIx) : (openWindow s w).serving s := by
  unfold openWindow
  split
  · split
    · exact Completion.serving_finish (.refl s)
    · trivial
  · trivial

theorem releaseWindow_serving (w : WinIx) : (releaseWindow s w).serving s := by
  unfold releaseWindow
  split
  · trivial
  · exact Completion.serving_finish (.refl s)
  · trivial
  · exact Completion.serving_finish (.refl s)

theorem closeWindow_serving (w : WinIx) : (closeWindow s w).serving s := by
  unfold closeWindow
  split
  · trivial
  · split
    · refine deferred_serving fun id t h => Steady.serving (h.trans ?_)
      unfold State.startClose
      split <;> simp [Steady]
    · trivial

theorem readProfile_serving (a : SlotIx × Fin 7) : (readProfile s a).serving s := by
  unfold readProfile
  split
  · trivial
  · split
    · exact Completion.serving_finish (.refl s)
    · dsimp only
      split
      · trivial
      · exact Completion.serving_finish (.refl s)

theorem admitSlot_serving (n : SlotIx) : (admitSlot s n).serving s := by
  unfold admitSlot
  split
  · trivial
  · split
    · trivial
    · split
      · trivial
      · exact deferred_serving fun id t h => Steady.serving h

theorem ejectSlot_serving (n : SlotIx) : (ejectSlot s n).serving s := by
  unfold ejectSlot
  split
  · trivial
  · split
    · trivial
    · exact deferred_serving fun id t h => (h.trans (by simp [Steady])).serving

theorem recoverSlot_serving (n : SlotIx) : (recoverSlot s n).serving s := by
  unfold recoverSlot
  split
  · trivial
  · split
    · exact deferred_serving fun id t h => .enqueueIdent (by simpa using h.1) n
    · trivial

theorem readTicket_serving (id : Nat) : (readTicket s id).serving s := by
  unfold readTicket
  split
  · trivial
  · split
    · trivial
    · exact Completion.serving_finish (.refl s)

theorem collectTicket_serving (id : Nat) : (collectTicket s id).serving s := by
  unfold collectTicket
  split
  · trivial
  · split
    · exact Completion.serving_finish (.refl s)
    · trivial

theorem configurePart_serving (c : PartConfig) : (configurePart s c).serving s := by
  unfold configurePart
  split
  · trivial
  · exact Completion.serving_finish (.refl s)

theorem commandBody_serving (c : Command) (o : Tbl 4 Word) (s : State) : (commandBody c o s).serving s := by
  have hsame {t : State} {code : ResultCode} {results : Tbl 4 Word} (h : Steady s t) :
      (Completion.finish code results t).serving s := Completion.serving_finish h
  cases c with
  | nop | partConfigRead => exact hsame (.refl s)
  | winRead | winLookup | slotRead | srcRead | slotClearPosted | srcRoute =>
    exact checked_serving fun _ => hsame (.refl s)
  | winStage => exact checked_serving stageWindow_serving
  | winOpen => exact checked_serving openWindow_serving
  | winClose => exact checked_serving closeWindow_serving
  | winRelease => exact checked_serving releaseWindow_serving
  | profileRead => exact checked_serving readProfile_serving
  | slotAdmit => exact checked_serving admitSlot_serving
  | slotEject => exact checked_serving ejectSlot_serving
  | slotRecover => exact checked_serving recoverSlot_serving
  | ticketRead => exact checked_serving readTicket_serving
  | ticketCollect => exact checked_serving collectTicket_serving
  | partConfig => exact checked_serving configurePart_serving

theorem Serving.complete (h : Serving s t) (code : ResultCode) (results : Tbl 4 Word) :
    Serving s (t.complete code results) := ⟨h.partReset, h.served⟩

theorem Serving.runCommand (c : Command) (s : State) : Serving s (runCommand c (commandBody c) s) := by
  unfold Machine.runCommand
  split
  · have hbody := commandBody_serving c s.engine.takenOperands s
    cases hcase : commandBody c s.engine.takenOperands s with
    | refuse code => exact (Steady.refl s).serving.complete code _
    | finish code results t =>
      rw [hcase] at hbody
      exact Serving.complete hbody code results
  · exact (Steady.refl s).serving

theorem Steady.completeUndefined (s : State) : Steady s s.completeUndefined := by
  unfold State.completeUndefined
  split <;> simp [Steady]

end

/-! ### Every command -/

theorem effect_serving (s : State) (c : Instr) : Serving s (s.effect c) := by
  cases c with
  | apertureAccess | controlBlockWrite | commandStatusRead | ack | eos | cmdOverrun | commandIssue =>
    exact (Steady.hostRequest s _).serving
  | nop | winStage | winOpen | winClose | winRelease | winRead | winLookup | slotRead | profileRead | slotAdmit
    | slotEject | slotRecover | slotClearPosted | srcRoute | srcRead | ticketRead | ticketCollect | partConfig
    | partConfigRead =>
    exact .runCommand _ s
  | badCommand => exact (Steady.completeUndefined s).serving
  | partReset | partResetEnd | hostPortResetRelease | packetCheckFailure => exact (Steady.refl s).serving
  | hostPortReset => exact (Steady.hostPortResets s).serving
  | presenceAsserted n => exact (Steady.presenceRises s n).serving
  | presenceDeasserted n => exact (Steady.presenceFalls s n).serving
  | settleTimerExpiry n => exact .settled s n
  | removalFilterExpiry n place => exact .removalExpires s n place
  | powerGoodAsserted n => exact (Steady.powerGoodRises s n).serving
  | powerGoodLoss n => exact (Steady.powerGoodFalls s n).serving
  | qualificationExpiry n => exact (Steady.qualified s n).serving
  | powerTimerExpiry n => exact (Steady.powerTimesOut s n).serving
  | trainingTimerExpiry n => exact (Steady.trainingTimesOut s n).serving
  | ready n count => exact (Steady.takeReady s n _).serving
  | sendRequest n => exact (Steady.sendHead s n).serving
  | completion n k status data => exact (Steady.takeCompletion s n k status data).serving
  | completionTimerExpiry n k => exact (Steady.requestTimesOut s n k).serving
  | quarantineTimerExpiry n k => exact (Steady.quarantineEnds s n k).serving
  | attention n causes => exact (Steady.takeAttention s n causes).serving
  | ejectRequest n => exact (Steady.takeEjectRequest s n).serving
  | quiesced n => exact (Steady.takeQuiesced s n).serving
  | quiesceTimerExpiry n => exact (Steady.quiesceTimesOut s n).serving
  | unknownPacketKind n => exact (Steady.takeUnknown s n).serving
  | linkLoss n => exact (Steady.losesLock s n).serving
  | busClear pulses => exact .busCleared s pulses
  | headerTransaction a b c d => exact .headerRead s (a :: [b, c, d].reduceOption)
  | bodyTransaction run => exact .bodyRead s run
  | attemptFails => exact .missingAcknowledge s
  | retryTimerExpiry => exact .retry s
  | abandonedByteEnd => exact .abandonedEnd s

end Sys2Proof.Machine

/-! PROOFS. Every step keeps `Safe`: the effect of each command, the part reset, and the step. -/

namespace Sys2Proof.Machine

-- One proof at a time: side by side they take more threads than the check's memory limit allows.
set_option Elab.async false

open Sys2Proof.Expected

section

variable {s t : State}

/-! ### Out of part reset -/

theorem Safe.effect_sound (h : Safe s) (hrun : s.partReset = false) (c : Instr) : Sound (s.quiet.effect c) := by
  have hquiet := h.sound.quiet
  cases c with
  | apertureAccess | controlBlockWrite | commandStatusRead | ack | eos | cmdOverrun | commandIssue =>
    exact hquiet.hostRequest _
  | nop | winStage | winOpen | winClose | winRelease | winRead | winLookup | slotRead | profileRead | slotAdmit
    | slotEject | slotRecover | slotClearPosted | srcRoute | srcRead | ticketRead | ticketCollect | partConfig
    | partConfigRead =>
    exact hquiet.runCommand _
  | badCommand => exact hquiet.completeUndefined
  | partReset | partResetEnd | hostPortResetRelease | packetCheckFailure => exact hquiet
  | hostPortReset => exact hquiet.hostPortResets
  | presenceAsserted n => exact hquiet.presenceRises n
  | presenceDeasserted n => exact hquiet.presenceFalls n
  | settleTimerExpiry n => exact hquiet.settled n
  | removalFilterExpiry n place => exact h.removalExpires_sound n place
  | powerGoodAsserted n => exact hquiet.powerGoodRises n
  | powerGoodLoss n => exact h.powerGoodFalls_sound n
  | qualificationExpiry n => exact hquiet.qualified n
  | powerTimerExpiry n => exact h.powerTimesOut_sound n
  | trainingTimerExpiry n => exact h.trainingTimesOut_sound n
  | ready n count => exact h.takeReady_sound n _
  | sendRequest n => exact hquiet.sendHead n
  | completion n k status data => exact h.takeCompletion_sound n k status data
  | completionTimerExpiry n k => exact h.sound.requestTimesOut n k
  | quarantineTimerExpiry n k => exact hquiet.quarantineEnds n k
  | attention n causes => exact hquiet.takeAttention n causes
  | ejectRequest n => exact hquiet.takeEjectRequest n
  | quiesced n => exact (h.quiet hrun).takeQuiesced_sound n
  | quiesceTimerExpiry n => exact (h.quiet hrun).quiesceTimesOut_sound n
  | unknownPacketKind n => exact h.takeUnknown_sound n
  | linkLoss n => exact h.losesLock_sound n
  | busClear pulses => exact hquiet.busCleared pulses
  | headerTransaction a b c d => exact hquiet.headerRead (a :: [b, c, d].reduceOption)
  | bodyTransaction run => exact hquiet.bodyRead run
  | attemptFails => exact hquiet.missingAcknowledge
  | retryTimerExpiry => exact hquiet.retry
  | abandonedByteEnd => exact hquiet.abandonedEnd

theorem resetHeld_of_running (hrun : s.partReset = false) : ResetHeld s :=
  fun hreset => Bool.noConfusion (hrun.symm.trans hreset)

theorem Safe.effect_safe (h : Safe s) (hrun : s.partReset = false) (c : Instr) : Safe (s.quiet.effect c) := by
  obtain ⟨hreset, hserved⟩ := effect_serving s.quiet c
  exact (h.effect_sound hrun c).safe (resetHeld_of_running (hreset.trans hrun)) (hserved h.lifecycle.served)

/-! ### In part reset (R158) -/

/-- The part with every record at its part reset value, and the inputs and the queue of commands of `s`. -/
def State.held (s : State) : State :=
  { State.reset with
    partReset := true
    hostReset := s.hostReset
    apStrap := s.apStrap
    cbStrap := s.cbStrap
    presence := s.presence
    powerGood := s.powerGood
    pending := s.pending }

theorem State.held_sound (s : State) : Sound s.held :=
  (State.safeCheck_sound (s := State.reset) (by decide)).sound.of_records rfl rfl rfl rfl rfl rfl rfl rfl

theorem State.held_safe (s : State) : Safe s.held := s.held_sound.safe (fun _ => rfl) fun _ => rfl

theorem ResetHeld.eq_held (h : ResetHeld s) (hreset : s.partReset = true) : s = s.held := h hreset

/-- The inputs and the queue of commands may move in part reset. -/
theorem Safe.of_held (h : Safe s) (hreset : s.partReset = true) (ht : t = { s with
    hostReset := t.hostReset
    presence := t.presence
    powerGood := t.powerGood
    out := Outputs.nothing
    pending := t.pending }) : Safe t := by
  have hheld := h.reset.eq_held hreset
  have hap : t.apStrap = s.apStrap := by rw [ht]
  have hcb : t.cbStrap = s.cbStrap := by rw [ht]
  rw [hheld] at ht
  have heq : t = t.held := by
    unfold State.held
    rw [hap, hcb]
    exact ht
  rw [heq]
  exact t.held_safe

theorem SlotFits.settle {r : Slot} {l : Link} (h : SlotFits r l) (hstate : r.state = .empty) (config : PartConfig) :
    SlotFits (r.settle config) l := by
  have hprofile := h.power.profile
  rw [hstate] at hprofile
  exact h.rest (state := .settling) (profile := r.profile) (by rw [hstate]; rfl) rfl hprofile h.profile
    (iff_of_true rfl rfl) fun hfilter => by
      have hfiltered := h.timers.filter hfilter
      rw [hstate] at hfiltered
      cases hfiltered

/-- Every slot is EMPTY, and some of them begin SETTLING (R51, R158). -/
theorem Sound.settlingBegins {b : SlotIx → Bool} (h : Sound s) (hempty : ∀ n, (s.slots.get n).state = .empty)
    (hslots : ∀ n, t.slots.get n = if b n then (s.slots.get n).settle s.config else s.slots.get n)
    (hlinks : t.links = s.links) (hwindows : t.windows = s.windows) (htable : t.hostTable = s.hostTable)
    (hqueue : t.identQueue = s.identQueue) (hident : t.ident = s.ident) (hconfig : t.config = s.config)
    (htickets : t.tickets = s.tickets) : Sound t := by
  have hvacant (n : SlotIx) : (t.slots.get n).state.vacant := by
    rw [hslots]
    split
    · exact .inr rfl
    · exact .inl (hempty n)
  have hold (n : SlotIx) : (s.slots.get n).state.vacant := .inl (hempty n)
  have hcommitted : t.committed = s.committed := by
    unfold State.committed
    refine congrArg List.sum (List.map_congr_left fun n _ => ?_)
    rw [hslots]
    split
    · rfl
    · rfl
  exact
    { slot := fun n => by
        rw [hlinks, hslots]
        split
        · exact (h.slot n).settle (hempty n) _
        · exact h.slot n
      ident :=
        { queueOnce := by
            rw [hqueue]
            exact h.ident.queueOnce
          queueExact := fun n => by
            obtain ⟨-, -, -, hqueued, -⟩ := SlotState.vacant_facts (hvacant n)
            obtain ⟨-, -, -, hqueued', -⟩ := SlotState.vacant_facts (hold n)
            rw [hqueue, h.ident.queueExact n]
            exact iff_of_false hqueued' hqueued
          reading := fun n => by
            obtain ⟨-, -, -, -, hidentifying⟩ := SlotState.vacant_facts (hvacant n)
            obtain ⟨-, -, -, -, hidentifying'⟩ := SlotState.vacant_facts (hold n)
            rw [hident, ← h.ident.reading n]
            exact iff_of_false hidentifying hidentifying'
          sound := by
            rw [hident]
            exact h.ident.sound }
      units := by
        rw [hcommitted, hconfig]
        exact h.units
      budget := by
        rw [hconfig]
        exact h.budget
      mapping := by
        rw [hwindows]
        exact h.mapping
      apart := by
        rw [hwindows]
        exact h.apart
      grantOnce := by
        rw [hwindows]
        exact h.grantOnce
      fits := fun w n hof => by
        rw [hwindows] at hof ⊢
        have hkeeps : KeepsWindows (s.slots.get n) (t.slots.get n) := by
          refine ⟨fun hsome => ?_, by simp [hempty], by simp [hempty]⟩
          rw [hslots]
          split
          · exact hsome
          · exact hsome
        exact hkeeps.fits (h.fits w n hof)
      refs := fun n w => by
        rw [hlinks, hwindows]
        exact h.refs n w
      hostTags := h.hostTags.congr htable fun n => by rw [hlinks]
      closeTickets := h.closeTickets.congr hwindows htickets
      slotTickets := fun n => (h.slotTickets n).moved htickets (keepsTickets_vacant (hold n) (hvacant n)) }

theorem Safe.partResetEnds (h : Safe s) (hreset : s.partReset = true) (apsel : Bool) (cbsel : BitVec 2) :
    Safe (s.quiet.partResetEnds apsel cbsel) := by
  have hheld := h.reset.eq_held hreset
  have hempty (n : SlotIx) : (s.slots.get n).state = .empty := by
    have hslots : s.slots = Tbl.fill Slot.reset := congrArg State.slots hheld
    rw [hslots, Tbl.get_fill]
    rfl
  have hident : s.identQueue = [] := congrArg State.identQueue hheld
  have hsound : Sound (s.quiet.partResetEnds apsel cbsel) :=
    h.sound.settlingBegins (b := fun n => s.presence.get n) hempty (fun n => Tbl.get_each _ _ n) rfl rfl rfl rfl rfl
    rfl rfl
  exact hsound.safe (resetHeld_of_running rfl) fun _ => hident

/-! ### Every command and every step -/

theorem Safe.moveLevel (h : Safe s) (hrun : s.partReset = false) (c : Instr) : Safe (s.moveLevel c) := by
  rw [State.moveLevel_eq]
  exact h.of_records hrun rfl rfl rfl rfl rfl rfl rfl rfl

theorem Safe.exec (h : Safe s) {c : Instr} (hexec : exec c s = .next t) : Safe t := by
  have hother (hc : notReset c) : Safe t := by
    cases hreset : s.partReset with
    | false =>
      rw [exec_of_running hc hreset] at hexec
      obtain rfl : _ = t := by simpa using hexec
      exact (h.moveLevel hreset c).effect_safe ((s.moveLevel_partReset c).trans hreset) c
    | true =>
      rw [exec_of_reset hc hreset] at hexec
      obtain rfl : _ = t := by simpa using hexec
      refine h.of_held hreset ?_
      rw [State.moveLevel_eq]
      rfl
  cases c with
  | partReset =>
    obtain rfl : _ = t := by simpa [Machine.exec, execPartReset] using hexec
    exact s.held_safe
  | partResetEnd apsel cbsel =>
    obtain rfl : _ = t := by simpa [Machine.exec, execPartResetEnd] using hexec
    split
    · rename_i hreset
      exact h.partResetEnds hreset apsel cbsel
    · rename_i hrun
      exact h.quiet (Bool.eq_false_iff.2 hrun)
  | _ => exact hother trivial

/-- The queue of commands is none of the records of the invariant. -/
theorem Safe.withPending (h : Safe s) (rest : List Instr) : Safe { s with pending := rest } := by
  by_cases hreset : s.partReset = true
  · refine h.of_held hreset ?_
    have hout : s.out = Outputs.nothing := congrArg State.out (h.reset.eq_held hreset)
    rw [← hout]
  · exact h.of_records (t := { s with pending := rest }) (Bool.eq_false_iff.2 hreset) rfl rfl rfl rfl rfl rfl rfl rfl

theorem Safe.step (h : Safe s) (hstep : step s = .next t) : Safe t := by
  unfold Machine.step at hstep
  split at hstep
  · obtain rfl : s = t := by simpa using hstep
    exact h
  · exact (h.withPending _).exec hstep

end

end Sys2Proof.Machine

/-! ### The obligations -/

namespace Sys2Proof.Invariant

-- One proof at a time: side by side they take more threads than the check's memory limit allows.
set_option Elab.async false

open Machine

/-- Settles O3: the command is taken out of part reset with its effect, or held in it. -/
theorem stepKeepsSafe : Obligations.StepKeepsSafe := fun _ _ h hstep => h.step hstep

/-- Settles O4: the parts of the invariant that speak of slots, links, timers and power. -/
theorem stepKeepsSlotsAgreed : Obligations.StepKeepsSlotsAgreed := fun _ _ h hstep =>
  have hsafe := h.step hstep
  ⟨hsafe.lifecycle, hsafe.reset, hsafe.power, hsafe.timers, hsafe.ranges⟩

/-- Settles O5: the parts of the invariant that count accesses. -/
theorem stepKeepsAccessesCounted : Obligations.StepKeepsAccessesCounted := fun _ _ h hstep =>
  have hsafe := h.step hstep
  ⟨hsafe.references, hsafe.queues, hsafe.hostTags⟩

end Sys2Proof.Invariant
